-- ==== Sys2Proof/Word.lean ====
section
/-! DEFINITION. The widths of the block's registers (spec/10_state.md R20), the level of a line (spec/00_scope.md R18),
the detection state (spec/10_state.md R22), and the words that carry inputs to the block (spec/30_encoding.md R82, R87). -/

namespace Sys2Proof

/-- A 16-bit register or tick value (R20). -/
abbrev Word := BitVec 16

/-- The 32-bit accumulator `sum_low` and the double-width intermediates (R28, R153). -/
abbrev Wide := BitVec 32

/-- The 8-bit sample counter (R31). -/
abbrev Count := BitVec 8

/-- One event word, format `EVT20` (R82). -/
abbrev EventWord := BitVec 20

/-- The value of the input ports in one clock cycle, format `BND23` (R87). -/
abbrev BundleWord := BitVec 23

/-- A line's level, one bit: `1` is high, `0` is low (R18; log 22). -/
inductive Level where
  | low
  | high
deriving DecidableEq, Repr

/-- DetectionState (R22). Three values: the fourth 2-bit code is reserved and unreachable (R92, log 15). -/
inductive DetectionState where
  | idleHigh
  | lowPending
  | lowActive
deriving DecidableEq, Repr

end Sys2Proof
end

