-- ==== Sys2Proof/Config.lean ====
section
/-! DEFINITION. The implementation parameters (spec/00_scope.md section 3, R4 to R15) with their reference values, and the
constants the spec fixes. -/

namespace Sys2Proof

/-- The eight open parameters (R5 to R11; D30). They are compile-time (R14): the model carries one parameter set with each
state, and no operation writes it (log 1). Mathematical integers (R16): their bounds are R13's, checked in WellFormed. -/
structure Params where
  /-- `CONFIRM_TICKS` (R5). -/
  confirmTicks : Nat
  /-- `MIN_LOW_TICKS`, the noise floor (R6). -/
  minLowTicks : Nat
  /-- `PERIOD_MIN_TICKS`, the lower bound of the plausible band, inclusive (R7). -/
  periodMinTicks : Nat
  /-- `PERIOD_MAX_TICKS`, the upper bound of the plausible band, inclusive (R7). -/
  periodMaxTicks : Nat
  /-- `BATCH_N` (R8). -/
  batchN : Nat
  /-- `DUTY_RESOLUTION` (R9). -/
  dutyResolution : Nat
  /-- `DUTY_DEFAULT` (R10). -/
  dutyDefault : Nat
  /-- `DEFAULT_LOW_TICKS` (R11). -/
  defaultLowTicks : Nat
deriving DecidableEq, Repr

/-- The reference configuration (the summary table of spec/00_scope.md section 3). -/
def Params.reference : Params where
  confirmTicks := 1
  minLowTicks := 5
  periodMinTicks := 40
  periodMaxTicks := 80
  batchN := 10
  dutyResolution := 100
  dutyDefault := 50
  defaultLowTicks := 50

/-- `INF_SENTINEL` (R12; D8, log 22). -/
def infSentinel : Word := 0xFFFF#16

/-- `DIAG_FREQ_NUM` (R15). -/
def diagFreqNum : Nat := 10000

/-- `DIAG_FREQ_HALF` (R15). -/
def diagFreqHalf : Nat := 2

end Sys2Proof
end

