-- ==== Sys2Proof/Syntax.lean ====
section
/-! DEFINITION. The instructions: the operations of spec/30_encoding.md R84, one constructor per row of
spec/opcode_table.json, each with the operands it uses (R82, R83). -/

namespace Sys2Proof

/-- One event: an operation with its operands (R84). -/
inductive Instr where
  /-- `NOP`, op 0 (R176). -/
  | nop
  /-- `TICK lvl`, op 1, timing context (R121). -/
  | tick (lvl : Level)
  /-- `EDGE lvl`, op 2, edge context (R120). -/
  | edge (lvl : Level)
  /-- `SET_DUTY arg`, op 3, foreground context; the operand is read as signed (R83, R170). -/
  | setDuty (arg : Word)
  /-- `RESET_CAL`, op 4, foreground context (R172). -/
  | resetCal
  /-- `DIAG`, op 5, foreground context (R174). -/
  | diag
  /-- The reserved code, op 6 (R91, R177). -/
  | reserved6
  /-- `HWRESET`, op 7, the reset pin (R220). -/
  | hwreset
deriving DecidableEq, Repr

end Sys2Proof
end

