-- ==== Sys2Proof/WellFormed.lean ====
section
/-! DEFINITION. The checks on terms: a legal parameter set (spec/00_scope.md R13), an instruction that is an operation of the
source (R84, R91), and a program that starts from a stated state (R220, spec/93_implementation_defined.md U1, U2). -/

namespace Sys2Proof

/-- The constraints every parameter set must meet (R13; D28, log 6). -/
def Params.legal (p : Params) : Bool :=
  decide (p.confirmTicks ≤ 65535) &&
  decide (p.minLowTicks ≤ 65535) &&
  decide (p.periodMinTicks ≤ p.periodMaxTicks) &&
  decide (p.periodMaxTicks ≤ 65535) &&
  decide (3 ≤ p.batchN) &&
  decide (p.batchN ≤ 255) &&
  decide (1 ≤ p.dutyResolution) &&
  decide (p.dutyResolution ≤ 32767) &&
  decide (p.dutyDefault ≤ p.dutyResolution) &&
  decide (p.defaultLowTicks ≤ 65535)

/-- Whether the instruction is one of the seven operations (R84). The reserved code is none of them: the machine performs it
as the hardware does, and a program about which something is claimed should not hold it (R91, U1; log 5). -/
def Instr.wellFormed (i : Instr) : Bool :=
  match i with
  | .nop => true
  | .tick _ => true
  | .edge _ => true
  | .setDuty _ => true
  | .resetCal => true
  | .diag => true
  | .reserved6 => false
  | .hwreset => true

/-- A program that has a meaning on its own: it begins with `HWRESET` (R220, U2; log 18) and holds no reserved code (U1). -/
def programWellFormed (prog : List Instr) : Bool :=
  decide (prog.head? = some .hwreset) && prog.all Instr.wellFormed

end Sys2Proof
end

