-- ==== Sys2Proof/Decode.lean ====
section
/-! DEFINITION. The event word, format `EVT20` (spec/30_encoding.md R82 to R85): its fields, the decoder (total on every
20-bit word, by `op` alone), the encoder, and the codes of levels and detection states (R18, R92). The word layout and the
operation codes are the spec's decision D4 (log 16). -/

namespace Sys2Proof

/-- Why a number is not an event word. -/
inductive DecodeError where
  /-- The number has a bit at place 20 or above: an event word has 20 bits (R82). -/
  | notAnEventWord
deriving DecidableEq, Repr

/-- `1` is high (R18). -/
def Level.ofBit (b : Bool) : Level := if b then .high else .low

/-- `1` is high (R18). -/
def Level.toBit (l : Level) : Bool :=
  match l with
  | .low => false
  | .high => true

/-- The level as a one-bit vector (R18). -/
def Level.bits (l : Level) : BitVec 1 := BitVec.ofBool l.toBit

/-- `IDLE_HIGH` 0, `LOW_PENDING` 1, `LOW_ACTIVE` 2 (R92). -/
def DetectionState.code (st : DetectionState) : BitVec 2 :=
  match st with
  | .idleHigh => 0#2
  | .lowPending => 1#2
  | .lowActive => 2#2

/-- The state a 2-bit code stands for; the hardware treats the reserved code 3 as `IDLE_HIGH` (R92). -/
def DetectionState.ofCode (c : BitVec 2) : DetectionState :=
  match c.toFin with
  | 0 => .idleHigh
  | 1 => .lowPending
  | 2 => .lowActive
  | 3 => .idleHigh

/-- The field `op`, bits 19:17 (R82). -/
def EventWord.op (w : EventWord) : BitVec 3 := w.extractLsb' 17 3

/-- The field `lvl`, bit 16 (R82). -/
def EventWord.lvl (w : EventWord) : Level := Level.ofBit (w.getLsbD 16)

/-- The field `arg`, bits 15:0 (R82). -/
def EventWord.arg (w : EventWord) : Word := w.extractLsb' 0 16

/-- The decoder: it looks at `op` alone, and reads `lvl` and `arg` only for the operations that use them (R84, R85). -/
def decode (w : EventWord) : Instr :=
  match (EventWord.op w).toFin with
  | 0 => .nop
  | 1 => .tick (EventWord.lvl w)
  | 2 => .edge (EventWord.lvl w)
  | 3 => .setDuty (EventWord.arg w)
  | 4 => .resetCal
  | 5 => .diag
  | 6 => .reserved6
  | 7 => .hwreset

/-- The decoder on numbers: what has more than 20 bits is no event word (R82; log 16). -/
def decodeNumber (w : Nat) : Except DecodeError Instr :=
  if w < 2 ^ 20 then .ok (decode (BitVec.ofNat 20 w)) else .error .notAnEventWord

/-- The instruction the decoder reads from a word of spec/opcode_table.json, given as a number (the table's 20 bits lie at
places 19 to 0; the length in whole bytes plays no part, log 16). -/
def decodeTableWord (_nbits w : Nat) : Option Instr :=
  match decodeNumber w with
  | .ok i => some i
  | .error _ => none

/-- An event word from its three fields: `op << 17 | lvl << 16 | arg` (R82). -/
def EventWord.make (op : BitVec 3) (lvl : BitVec 1) (arg : Word) : EventWord :=
  op.setWidth 20 <<< 17 ||| lvl.setWidth 20 <<< 16 ||| arg.setWidth 20

/-- The encoder: the canonical event word, every unused field zero (R84, R85). -/
def encode (i : Instr) : EventWord :=
  match i with
  | .nop => EventWord.make 0#3 0#1 0#16
  | .tick lvl => EventWord.make 1#3 lvl.bits 0#16
  | .edge lvl => EventWord.make 2#3 lvl.bits 0#16
  | .setDuty arg => EventWord.make 3#3 0#1 arg
  | .resetCal => EventWord.make 4#3 0#1 0#16
  | .diag => EventWord.make 5#3 0#1 0#16
  | .reserved6 => EventWord.make 6#3 0#1 0#16
  | .hwreset => EventWord.make 7#3 0#1 0#16

/-- Whether the operation uses the field `lvl` (R84). -/
def Instr.usesLvl (i : Instr) : Bool :=
  match i with
  | .tick _ => true
  | .edge _ => true
  | .nop => false
  | .setDuty _ => false
  | .resetCal => false
  | .diag => false
  | .reserved6 => false
  | .hwreset => false

/-- Whether the operation uses the field `arg` (R84). -/
def Instr.usesArg (i : Instr) : Bool :=
  match i with
  | .setDuty _ => true
  | .tick _ => false
  | .edge _ => false
  | .nop => false
  | .resetCal => false
  | .diag => false
  | .reserved6 => false
  | .hwreset => false

/-- The canonical spelling: every unused field is zero (R85). -/
def EventWord.canonical (w : EventWord) : Bool :=
  ((decode w).usesLvl || decide (EventWord.lvl w = .low)) && ((decode w).usesArg || decide (EventWord.arg w = 0#16))

end Sys2Proof
end

