-- ==== Sys2Proof/Machine/State.lean ====
section
/-! DEFINITION. The machine's state as plain data: the registers S0 to S18 of spec/10_state.md R20 (S19 is the constant
`State.dutyResolution`), the instance's parameter set, and the inputs still to come; the state after reset (R220); the reasons
a step can stop; the types of what the block shows outside (R81, R86). -/

namespace Sys2Proof.Machine

/-- The block raises no exception and has no fault state (R190): no constructor (log 21). -/
inductive Fault where
deriving DecidableEq, Repr

/-- Why a step gives no meaning. -/
inductive Refusal where
  /-- An arm of exec that has no meaning yet; safe. No arm raises it in this model. -/
  | notModelled (mnemonic : String)
  /-- The parameter set breaks a constraint of R13, so the instance has no meaning (D28, U11, log 6). Raised by every
  instruction and by `step`; safe. -/
  | illegalParameters
deriving DecidableEq, Repr

/-- The block's state, each register under its name in the spec, and three fields of the model's own
(`params`, log 1; `events` and `cycles`, log 2). -/
structure State where
  /-- The instance's implementation parameters; no operation writes them (R14; log 1). -/
  params : Params
  /-- S0 (R21). -/
  tick : Word
  /-- S1 (R22). -/
  state : DetectionState
  /-- S2 (R23). -/
  pendingStartTick : Word
  /-- S3 (R24). -/
  lowStartTick : Word
  /-- S4 (R25). -/
  dutyStartTick : Word
  /-- S5 (R26). -/
  lastLowTicks : Word
  /-- S6 (R27). -/
  fixedLowTicks : Word
  /-- S7 (R28). -/
  sumLow : Wide
  /-- S8 (R29). -/
  minLow : Word
  /-- S9 (R30). -/
  maxLow : Word
  /-- S10 (R31). -/
  sampleCnt : Count
  /-- S11 (R35). -/
  calibDone : Bool
  /-- S12 (R36). -/
  prevInputState : Level
  /-- S13 (R37). -/
  dutyPercent : Word
  /-- S14 (R32). -/
  dutyLatched : Word
  /-- S15 (R39). -/
  mode0 : Bool
  /-- S16 (R40). -/
  mode100 : Bool
  /-- S17 (R33). -/
  highTicks : Word
  /-- S18 (R34). -/
  outLevel : Level
  /-- The event words the surroundings have presented and the block has not performed yet, next first: the rest of a
  program (R82) or of one clock cycle's events (R88). No register of the block (R47; log 2). -/
  events : List EventWord
  /-- The values of the input ports in the clock cycles to come (R87). No register of the block (log 2). -/
  cycles : List BundleWord
deriving DecidableEq, Repr

/-- S19 `duty_resolution`: the constant `DUTY_RESOLUTION`, read-only (R38; D12). -/
def State.dutyResolution (s : State) : Word := BitVec.ofNat 16 s.params.dutyResolution

/-- The reset column of R20 for a given parameter set, with no input presented (R220; D9, log 4). -/
def State.resetOf (p : Params) : State where
  params := p
  tick := 0#16
  state := .idleHigh
  pendingStartTick := 0#16
  lowStartTick := 0#16
  dutyStartTick := 0#16
  lastLowTicks := 0#16
  fixedLowTicks := 0#16
  sumLow := 0#32
  minLow := infSentinel
  maxLow := 0#16
  sampleCnt := 0#8
  calibDone := false
  prevInputState := .low
  dutyPercent := BitVec.ofNat 16 p.dutyDefault
  dutyLatched := 0#16
  mode0 := false
  mode100 := false
  highTicks := 0#16
  outLevel := .low
  events := []
  cycles := []

/-- The machine right after `HWRESET`, in the reference configuration (R220; log 1, log 4). -/
def State.reset : State := State.resetOf Params.reference

/-- What `DIAG` returns: 1 + 16 + 16 bits (R86, R174). -/
structure DiagResult where
  /-- `diag_valid`. -/
  valid : Bool
  /-- `diag_ticks`. -/
  ticks : Word
  /-- `diag_freq`. -/
  freq : Word
deriving DecidableEq, Repr

/-- The output ports (R80). -/
structure Ports where
  /-- `out_level`. -/
  outLevel : Level
  /-- `tick_now`. -/
  tickNow : Word
  /-- `diag_valid`, `diag_ticks`, `diag_freq`. -/
  diag : DiagResult
deriving DecidableEq, Repr

/-- The input ports of one clock cycle (R80, R87). -/
structure Bundle where
  /-- `rst`. -/
  rst : Bool
  /-- `cmd_valid`. -/
  cv : Bool
  /-- `cmd_op`. -/
  cop : BitVec 2
  /-- `cmd_arg`. -/
  carg : Word
  /-- `edge_stb`. -/
  es : Bool
  /-- `tick_stb`. -/
  ts : Bool
  /-- `in_level`. -/
  il : Level
deriving DecidableEq, Repr

/-- One entry per register of R20, S0 to S19, for statements about registers by name. -/
inductive Reg where
  | tick
  | state
  | pendingStartTick
  | lowStartTick
  | dutyStartTick
  | lastLowTicks
  | fixedLowTicks
  | sumLow
  | minLow
  | maxLow
  | sampleCnt
  | calibDone
  | prevInputState
  | dutyPercent
  | dutyLatched
  | mode0
  | mode100
  | highTicks
  | outLevel
  | dutyResolution
deriving DecidableEq, Repr

end Sys2Proof.Machine
end

