-- ==== Sys2Proof/Machine/Ops.lean ====
section
/-! DEFINITION. The named operations that the meanings share: performing an operation (R65, R13), the wrap-safe elapsed time
(R112), the output write (R63), the reading of a register by its name (R20). The block has no memory (R60) and raises no
exception (R190): no memory access and no exception entry stands here (log 21, log 23). -/

namespace Sys2Proof.Machine

/-- Perform one operation: a single transition to the state `f` gives (R65). An instance whose parameter set breaks R13 has no
meaning (log 6). -/
def perform (f : State → State) (s : State) : Host.Outcome State Fault Refusal :=
  if s.params.legal then .next (f s) else .refused .illegalParameters

/-- `elapsed(a, b)`: the 16-bit wrapping difference, read as unsigned (R112). -/
def elapsed (a b : Word) : Word := a - b

/-- `OutWrite(b)`: the output register takes the level (R63). -/
def outWrite (l : Level) (s : State) : State := { s with outLevel := l }

/-- The register's index `S<n>` (R20). -/
def Reg.index (r : Reg) : Nat :=
  match r with
  | .tick => 0
  | .state => 1
  | .pendingStartTick => 2
  | .lowStartTick => 3
  | .dutyStartTick => 4
  | .lastLowTicks => 5
  | .fixedLowTicks => 6
  | .sumLow => 7
  | .minLow => 8
  | .maxLow => 9
  | .sampleCnt => 10
  | .calibDone => 11
  | .prevInputState => 12
  | .dutyPercent => 13
  | .dutyLatched => 14
  | .mode0 => 15
  | .mode100 => 16
  | .highTicks => 17
  | .outLevel => 18
  | .dutyResolution => 19

/-- The register's width in bits (R20). -/
def Reg.width (r : Reg) : Nat :=
  match r with
  | .tick => 16
  | .state => 2
  | .pendingStartTick => 16
  | .lowStartTick => 16
  | .dutyStartTick => 16
  | .lastLowTicks => 16
  | .fixedLowTicks => 16
  | .sumLow => 32
  | .minLow => 16
  | .maxLow => 16
  | .sampleCnt => 8
  | .calibDone => 1
  | .prevInputState => 1
  | .dutyPercent => 16
  | .dutyLatched => 16
  | .mode0 => 1
  | .mode100 => 1
  | .highTicks => 16
  | .outLevel => 1
  | .dutyResolution => 16

/-- The register's contents as the spec numbers them, widened with zeros to 32 bits: the observation record of R81, with the
codes of R92 for the state, the flags and the levels. -/
def State.read (s : State) (r : Reg) : Wide :=
  match r with
  | .tick => s.tick.setWidth 32
  | .state => s.state.code.setWidth 32
  | .pendingStartTick => s.pendingStartTick.setWidth 32
  | .lowStartTick => s.lowStartTick.setWidth 32
  | .dutyStartTick => s.dutyStartTick.setWidth 32
  | .lastLowTicks => s.lastLowTicks.setWidth 32
  | .fixedLowTicks => s.fixedLowTicks.setWidth 32
  | .sumLow => s.sumLow
  | .minLow => s.minLow.setWidth 32
  | .maxLow => s.maxLow.setWidth 32
  | .sampleCnt => s.sampleCnt.setWidth 32
  | .calibDone => (BitVec.ofBool s.calibDone).setWidth 32
  | .prevInputState => s.prevInputState.bits.setWidth 32
  | .dutyPercent => s.dutyPercent.setWidth 32
  | .dutyLatched => s.dutyLatched.setWidth 32
  | .mode0 => (BitVec.ofBool s.mode0).setWidth 32
  | .mode100 => (BitVec.ofBool s.mode100).setWidth 32
  | .highTicks => s.highTicks.setWidth 32
  | .outLevel => s.outLevel.bits.setWidth 32
  | .dutyResolution => s.dutyResolution.setWidth 32

end Sys2Proof.Machine
end

