-- ==== Sys2Proof/Machine/Operands.lean ====
section
/-! DEFINITION. The operand of `SET_DUTY` (R83, R170) and the values computed from registers: the width estimate (R152), the
on-time (R153), the batch minimum and maximum (R143), the trimmed mean (R144). -/

namespace Sys2Proof.Machine

/-- The clamp of `SET_DUTY`: `arg` is read as a signed 16-bit integer and clamped into `[0, DUTY_RESOLUTION]` (R83, R170;
D13, log 19). -/
def clampDuty (p : Params) (arg : Word) : Word :=
  if arg.toInt < 0 then 0#16
  else if (p.dutyResolution : Int) < arg.toInt then BitVec.ofNat 16 p.dutyResolution
  else arg

/-- The width estimate by priority: the calibrated reference, else the last accepted width if there is one, else the fixed
default (R152). -/
def widthEstimate (s : State) : Word :=
  if s.calibDone then s.fixedLowTicks
  else if s.lastLowTicks ≠ 0#16 then s.lastLowTicks
  else BitVec.ofNat 16 s.params.defaultLowTicks

/-- The product of estimate and latched duty, in 32 bits (R153). -/
def onTimeProduct (est duty : Word) : Wide := est.setWidth 32 * duty.setWidth 32

/-- The rounded quotient `(p + DUTY_RESOLUTION div 2) div DUTY_RESOLUTION` in unsigned 32-bit arithmetic, a half rounded up
(R153; D10, log 9). -/
def onTimeQuotient (p : Params) (est duty : Word) : Wide :=
  (onTimeProduct est duty + BitVec.ofNat 32 (p.dutyResolution / 2)) / BitVec.ofNat 32 p.dutyResolution

/-- The on-time: the rounded quotient, at least 1 (R153). -/
def onTime (p : Params) (est duty : Word) : Word :=
  if onTimeQuotient p est duty = 0#32 then 1#16 else (onTimeQuotient p est duty).setWidth 16

/-- The batch minimum after one more sample (R143). -/
def batchMin (s : State) (w : Word) : Word :=
  if s.sampleCnt = 0#8 then w else if w < s.minLow then w else s.minLow

/-- The batch maximum after one more sample (R143). -/
def batchMax (s : State) (w : Word) : Word :=
  if s.sampleCnt = 0#8 then w else if s.maxLow < w then w else s.maxLow

/-- The trimmed mean of a full batch, in 32 bits, floor, low 16 bits (R144; log 25). -/
def trimmedMean (s : State) : Word :=
  ((s.sumLow - s.minLow.setWidth 32 - s.maxLow.setWidth 32) / BitVec.ofNat 32 (s.params.batchN - 2)).setWidth 16

end Sys2Proof.Machine
end

