-- ==== Sys2Proof/Machine/Foreground.lean ====
section
/-! DEFINITION. The foreground operations (spec/44_foreground_api.md): the meanings of `SET_DUTY`, `RESET_CAL`, `DIAG`, `NOP`
and the reserved code, and the value `DIAG` returns. -/

namespace Sys2Proof.Machine

/-- The effect of `SET_DUTY arg`: `duty_percent` alone (R170). -/
def setDuty (arg : Word) (s : State) : State := { s with dutyPercent := clampDuty s.params arg }

/-- The effect of `RESET_CAL`: the eleven PulseWindowManager fields and the state, `min_low` to 0 and not to the sentinel
(R172; C3 of spec/90_conflicts.md); nothing else (R173; D15, log 11). -/
def resetCalibration (s : State) : State :=
  { s with
    pendingStartTick := 0#16
    lowStartTick := 0#16
    dutyStartTick := 0#16
    lastLowTicks := 0#16
    fixedLowTicks := 0#16
    sumLow := 0#32
    minLow := 0#16
    maxLow := 0#16
    sampleCnt := 0#8
    calibDone := false
    prevInputState := .low
    state := .idleHigh }

/-- `diag_freq`: `10000 div (2 * fixed_low_ticks)` with a 17-bit divisor, floor; 0 where the reference is unavailable or 0
(R15, R174; D19, log 14). -/
def diagFreq (s : State) : Word :=
  if s.calibDone = true ∧ s.fixedLowTicks ≠ 0#16 then
    (BitVec.ofNat 17 diagFreqNum / (BitVec.ofNat 17 diagFreqHalf * s.fixedLowTicks.setWidth 17)).setWidth 16
  else 0#16

/-- The diagnostic result, a function of `calib_done` and `fixed_low_ticks` (R174). -/
def diagResult (s : State) : DiagResult where
  valid := s.calibDone
  ticks := if s.calibDone then s.fixedLowTicks else 0#16
  freq := diagFreq s

/-- What an operation returns to its caller when performed in `s`: the triple for `DIAG`, nothing for every other (R86;
log 14). -/
def returned (i : Instr) (s : State) : Option DiagResult :=
  match i with
  | .diag => some (diagResult s)
  | .nop => none
  | .tick _ => none
  | .edge _ => none
  | .setDuty _ => none
  | .resetCal => none
  | .reserved6 => none
  | .hwreset => none

/-- The meaning of `NOP` (R176). -/
def execNop (s : State) : Host.Outcome State Fault Refusal := perform id s

/-- The meaning of `SET_DUTY arg` (R170). -/
def execSetDuty (arg : Word) (s : State) : Host.Outcome State Fault Refusal := perform (setDuty arg) s

/-- The meaning of `RESET_CAL` (R172). -/
def execResetCal (s : State) : Host.Outcome State Fault Refusal := perform resetCalibration s

/-- The meaning of `DIAG`: no register is written (R174); its result is `returned .diag s`. -/
def execDiag (s : State) : Host.Outcome State Fault Refusal := perform id s

/-- The meaning of the reserved code: the hardware performs it as `NOP` (R91, R177; D25, log 5). -/
def execReserved6 (s : State) : Host.Outcome State Fault Refusal := perform id s

end Sys2Proof.Machine
end

