-- ==== Sys2Proof/Machine/Reset.lean ====
section
/-! DEFINITION. Hardware reset (spec/70_reset_and_hazards.md section 1): the meaning of `HWRESET`. -/

namespace Sys2Proof.Machine

/-- The effect of `HWRESET`: S0 to S18 to their reset values; `duty_resolution` is a constant and is not written (R220; D9,
log 4). The parameter set and the inputs to come are no registers of the block and stay (log 1, log 2). -/
def hardwareReset (s : State) : State :=
  { s with
    tick := 0#16
    state := .idleHigh
    pendingStartTick := 0#16
    lowStartTick := 0#16
    dutyStartTick := 0#16
    lastLowTicks := 0#16
    fixedLowTicks := 0#16
    sumLow := 0#32
    minLow := infSentinel
    maxLow := 0#16
    sampleCnt := 0#8
    calibDone := false
    prevInputState := .low
    dutyPercent := BitVec.ofNat 16 s.params.dutyDefault
    dutyLatched := 0#16
    mode0 := false
    mode100 := false
    highTicks := 0#16
    outLevel := .low }

/-- The meaning of `HWRESET` (R220). -/
def execHwreset (s : State) : Host.Outcome State Fault Refusal := perform hardwareReset s

end Sys2Proof.Machine
end

