-- ==== Sys2Proof/Machine/Flags.lean ====
section
/-! DEFINITION. The flag computations. The block has no arithmetic condition codes (spec/10_state.md section 5); its computed
flags are the two forced-mode flags (R151), and the conditions of the state machine and the calibration that the operations
test: the confirmation threshold (R123), the end of the on-time (R155), the noise floor (R127), the band (R142). -/

namespace Sys2Proof.Machine

/-- `mode0 = (duty_latched == 0)` (R151). -/
def mode0Of (duty : Word) : Bool := decide (duty = 0#16)

/-- `mode100 = (duty_latched >= DUTY_RESOLUTION)` (R151). -/
def mode100Of (p : Params) (duty : Word) : Bool := decide (p.dutyResolution ≤ duty.toNat)

/-- `elapsed(now, pending_start_tick) >= CONFIRM_TICKS` (R123). -/
def confirmReached (s : State) (now : Word) : Bool :=
  decide (s.params.confirmTicks ≤ (elapsed now s.pendingStartTick).toNat)

/-- `elapsed(now, duty_start_tick) >= high_ticks` (R155; D22, log 13). -/
def onTimeReached (s : State) (now : Word) : Bool :=
  decide (s.highTicks.toNat ≤ (elapsed now s.dutyStartTick).toNat)

/-- `dt_low >= MIN_LOW_TICKS` (R127). -/
def aboveFloor (p : Params) (w : Word) : Bool := decide (p.minLowTicks ≤ w.toNat)

/-- `PERIOD_MIN_TICKS <= dt_low <= PERIOD_MAX_TICKS`, both inclusive (R142). -/
def inBand (p : Params) (w : Word) : Bool := decide (p.periodMinTicks ≤ w.toNat ∧ w.toNat ≤ p.periodMaxTicks)

end Sys2Proof.Machine
end

