-- ==== Sys2Proof/Machine/Calibration.lean ====
section
/-! DEFINITION. The Calibration Engine (spec/42_calibration.md): the window-close policy `CALIBRATE`. -/

namespace Sys2Proof.Machine

/-- The batch feed (R143): the sum in 32 bits, the minimum, the maximum, the count in 8 bits (log 25). -/
def feedBatch (w : Word) (s : State) : State :=
  { s with
    minLow := batchMin s w
    maxLow := batchMax s w
    sumLow := s.sumLow + w.setWidth 32
    sampleCnt := s.sampleCnt + 1#8 }

/-- Batch consumption, when the incremented count equals `BATCH_N` (R144). -/
def consumeBatch (s : State) : State :=
  if s.sampleCnt.toNat = s.params.batchN then
    { s with
      fixedLowTicks := trimmedMean s
      calibDone := true
      sumLow := 0#32
      sampleCnt := 0#8
      minLow := infSentinel
      maxLow := 0#16 }
  else s

/-- `CALIBRATE(dt_low)`: the fallback estimate always (R141), the batch only for a width in the band (R142, R143, R144). The
caller has tested the noise floor (R140). -/
def calibrate (w : Word) (s : State) : State :=
  if inBand s.params w then consumeBatch (feedBatch w { s with lastLowTicks := w })
  else { s with lastLowTicks := w }

end Sys2Proof.Machine
end

