-- ==== Sys2Proof/Machine/DutyOutput.lean ====
section
/-! DEFINITION. The Duty Output Generator (spec/43_duty_output.md): `CONFIRM_OUTPUT`, `SHAPE`, `CLOSE_OUTPUT`. -/

namespace Sys2Proof.Machine

/-- The latch and the mode flags (R150, R151). -/
def latchDuty (s : State) : State :=
  { s with
    dutyLatched := s.dutyPercent
    mode0 := mode0Of s.dutyPercent
    mode100 := mode100Of s.params s.dutyPercent }

/-- The output at confirmation, after the latch: low for `mode0`, high for `mode100`, else the on-time is computed and the
output goes high at once (R152, R153, R154). `mode0` is tested first (D20), and a forced window keeps the old `high_ticks`
(D18; log 13). -/
def driveConfirmed (s : State) : State :=
  if s.mode0 then outWrite .low s
  else if s.mode100 then outWrite .high s
  else outWrite .high { s with highTicks := onTime s.params (widthEstimate s) s.dutyLatched }

/-- `CONFIRM_OUTPUT()` (R150). -/
def confirmOutput (s : State) : State := driveConfirmed (latchDuty s)

/-- `SHAPE(now)` (R155, R156): forced modes re-assert their level; else the output goes low once the on-time is reached, and
is not written before (D14, log 10). -/
def shape (t : Word) (s : State) : State :=
  if s.mode0 then outWrite .low s
  else if s.mode100 then outWrite .high s
  else if onTimeReached s t then outWrite .low s
  else s

/-- `CLOSE_OUTPUT()` (R157). -/
def closeOutput (s : State) : State := { outWrite .low s with mode0 := false, mode100 := false }

end Sys2Proof.Machine
end

