-- ==== Sys2Proof/Machine/TickClock.lean ====
section
/-! DEFINITION. The Tick Clock (spec/40_tick_clock.md): `advance()` and `now()`. -/

namespace Sys2Proof.Machine

/-- `advance()`: the counter grows by one and wraps modulo 65536 (R110). -/
def advance (s : State) : State := { s with tick := s.tick + 1#16 }

/-- `now()`: the current value of the counter; no side effect (R111). -/
def now (s : State) : Word := s.tick

end Sys2Proof.Machine
end

