-- ==== Sys2Proof/Machine/Window.lean ====
section
/-! DEFINITION. The Pulse Window State Machine (spec/41_pulse_window_fsm.md): the meanings of `EDGE` and `TICK`. -/

namespace Sys2Proof.Machine

/-- The effect of `EDGE lvl`: a low sample in `IDLE_HIGH` opens a pending window; otherwise nothing (R120). -/
def edgeDetected (lvl : Level) (s : State) : State :=
  match s.state, lvl with
  | .idleHigh, .low => { s with pendingStartTick := now s, state := .lowPending }
  | .idleHigh, .high => s
  | .lowPending, _ => s
  | .lowActive, _ => s

/-- `CONFIRM(now)`: `LOW_PENDING` to `LOW_ACTIVE` (R124). -/
def confirm (t : Word) (s : State) : State :=
  confirmOutput
    { s with
      lowStartTick := s.pendingStartTick
      dutyStartTick := t
      state := .lowActive }

/-- `dt_low`, the measured width (R127). -/
def measuredWidth (t : Word) (s : State) : Word := elapsed t s.lowStartTick

/-- `CLOSE(now)`: the output is forced low, the width is measured and, at or above the noise floor, given to the calibration;
the state returns to `IDLE_HIGH` always (R127). -/
def close (t : Word) (s : State) : State :=
  if aboveFloor s.params (measuredWidth t s) then
    { calibrate (measuredWidth t s) (closeOutput s) with state := .idleHigh }
  else { closeOutput s with state := .idleHigh }

/-- `TICK` in `LOW_PENDING`: a high sample rejects the window as noise (R125); a low one confirms it once the threshold is
reached (R123, R124), and else nothing is written (D21, log 13). -/
def tickPending (lvl : Level) (s : State) : State :=
  match lvl with
  | .high => { s with state := .idleHigh }
  | .low => if confirmReached s (now s) then confirm (now s) s else s

/-- `TICK` in `LOW_ACTIVE`: a low sample shapes the output (R126), a high one closes the window (R127). -/
def tickActive (lvl : Level) (s : State) : State :=
  match lvl with
  | .low => shape (now s) s
  | .high => close (now s) s

/-- The one branch of a `TICK`, selected by the state at entry (R121, R122; D17, log 13). -/
def onTick (lvl : Level) (s : State) : State :=
  match s.state with
  | .idleHigh => s
  | .lowPending => tickPending lvl s
  | .lowActive => tickActive lvl s

/-- The effect of `TICK lvl`: the counter advances, one branch runs, the sample is recorded (R121; D16, log 12). -/
def ticked (lvl : Level) (s : State) : State := { onTick lvl (advance s) with prevInputState := lvl }

/-- The meaning of `EDGE lvl` (R120). -/
def execEdge (lvl : Level) (s : State) : Host.Outcome State Fault Refusal := perform (edgeDetected lvl) s

/-- The meaning of `TICK lvl` (R121). -/
def execTick (lvl : Level) (s : State) : Host.Outcome State Fault Refusal := perform (ticked lvl) s

end Sys2Proof.Machine
end

