-- ==== Sys2Proof/Machine/Dispatch.lean ====
section
/-! DEFINITION. One arm per instruction: the operation map of spec/30_encoding.md R84. -/

namespace Sys2Proof.Machine

/-- What each instruction does (R84). -/
def exec (i : Instr) (s : State) : Host.Outcome State Fault Refusal :=
  match i with
  | .nop => Sys2Proof.Machine.execNop s
  | .tick lvl => Sys2Proof.Machine.execTick lvl s
  | .edge lvl => Sys2Proof.Machine.execEdge lvl s
  | .setDuty arg => Sys2Proof.Machine.execSetDuty arg s
  | .resetCal => Sys2Proof.Machine.execResetCal s
  | .diag => Sys2Proof.Machine.execDiag s
  | .reserved6 => Sys2Proof.Machine.execReserved6 s
  | .hwreset => Sys2Proof.Machine.execHwreset s

end Sys2Proof.Machine
end

