-- ==== Sys2Proof/Machine/Ports.lean ====
section
/-! DEFINITION. The boundary of the block, clock cycle by clock cycle (spec/30_encoding.md R80, R81, R87 to R90;
spec/20_memory.md R71, R76): the bundle of input ports and its expansion into events, a sequence of events, one whole clock
cycle, the output ports. The bundle's layout and the same-cycle order are the spec's decisions D5 and D3 (log 16, log 7). -/

namespace Sys2Proof.Machine

/-- The fields of a bundle word (R87). -/
def Bundle.ofWord (w : BundleWord) : Bundle where
  rst := w.getLsbD 22
  cv := w.getLsbD 21
  cop := w.extractLsb' 19 2
  carg := w.extractLsb' 3 16
  es := w.getLsbD 2
  ts := w.getLsbD 1
  il := Level.ofBit (w.getLsbD 0)

/-- The bundle word of the fields (R87). -/
def Bundle.toWord (b : Bundle) : BundleWord :=
  (BitVec.ofBool b.rst).setWidth 23 <<< 22 ||| (BitVec.ofBool b.cv).setWidth 23 <<< 21 |||
    b.cop.setWidth 23 <<< 19 ||| b.carg.setWidth 23 <<< 3 ||| (BitVec.ofBool b.es).setWidth 23 <<< 2 |||
    (BitVec.ofBool b.ts).setWidth 23 <<< 1 ||| b.il.bits.setWidth 23

/-- The ports of an idle cycle (R88). -/
def Bundle.idle : Bundle where
  rst := false
  cv := false
  cop := 0#2
  carg := 0#16
  es := false
  ts := false
  il := .low

/-- The foreground command of a `cmd_op` code (R90), the reserved code included (R91). -/
def command (cop : BitVec 2) (carg : Word) : Instr :=
  match cop.toFin with
  | 0 => .setDuty carg
  | 1 => .resetCal
  | 2 => .diag
  | 3 => .reserved6

/-- The events of one clock cycle in their order: `HWRESET` alone, else the command, then `EDGE`, then `TICK` (R88, R89). -/
def Bundle.expand (b : Bundle) : List Instr :=
  if b.rst then [.hwreset]
  else
    (if b.cv then [command b.cop b.carg] else []) ++ (if b.es then [.edge b.il] else []) ++
      (if b.ts then [.tick b.il] else [])

/-- The bundle that presents one event by itself (the table of R95). -/
def asBundle (i : Instr) : Bundle :=
  match i with
  | .nop => Bundle.idle
  | .tick lvl => { Bundle.idle with ts := true, il := lvl }
  | .edge lvl => { Bundle.idle with es := true, il := lvl }
  | .setDuty arg => { Bundle.idle with cv := true, cop := 0#2, carg := arg }
  | .resetCal => { Bundle.idle with cv := true, cop := 1#2 }
  | .diag => { Bundle.idle with cv := true, cop := 2#2 }
  | .reserved6 => { Bundle.idle with cv := true, cop := 3#2 }
  | .hwreset => { Bundle.idle with rst := true }

/-- An event sequence: each operation is applied to the state the earlier ones left (R71); the first stop ends it. -/
def run (is : List Instr) (s : State) : Host.Outcome State Fault Refusal :=
  match is with
  | [] => .next s
  | i :: rest =>
    match exec i s with
    | .next t => run rest t
    | .fault r => .fault r
    | .refused r => .refused r

/-- One clock cycle with the given input ports: its events in order; an idle cycle is equivalent to one `NOP` (R88). -/
def clock (b : Bundle) (s : State) : Host.Outcome State Fault Refusal :=
  match b.expand with
  | [] => execNop s
  | i :: rest => run (i :: rest) s

/-- A sequence of clock cycles, given the input ports of each (R71, R88); the first stop ends it. -/
def runCycles (bs : List Bundle) (s : State) : Host.Outcome State Fault Refusal :=
  match bs with
  | [] => .next s
  | b :: rest =>
    match clock b s with
    | .next t => runCycles rest t
    | .fault r => .fault r
    | .refused r => .refused r

/-- The output ports (R81), a projection of the state. In a clock cycle they show the state after the operations of all
earlier cycles (R76; D31, log 17): the state before `clock`. -/
def State.ports (s : State) : Ports where
  outLevel := s.outLevel
  tickNow := now s
  diag := diagResult s

/-- The output ports in each of a sequence of clock cycles, given the input ports of each (R76): every cycle shows what the
cycles before it left; the list ends early where a cycle stops. -/
def waveform (bs : List Bundle) (s : State) : List Ports :=
  match bs with
  | [] => []
  | b :: rest =>
    s.ports ::
      match clock b s with
      | .next t => waveform rest t
      | .fault _ => []
      | .refused _ => []

end Sys2Proof.Machine
end

