-- ==== Sys2Proof/Machine/Step.lean ====
section
/-! DEFINITION. One step of the machine. The block fetches nothing (R75): the surroundings present its inputs, which the model
holds in the fields `events` and `cycles` (log 2). A step performs the next event presented; where none is left it takes in the
next clock cycle's ports; where no cycle is left either, the cycle is idle (R206). -/

namespace Sys2Proof.Machine

/-- Take in the ports of a new clock cycle: its events are presented, and no register changes (R88). -/
def presentCycle (w : BundleWord) (rest : List BundleWord) (s : State) : State :=
  { s with events := (Bundle.expand (Bundle.ofWord w)).map encode, cycles := rest }

/-- One step: the next event is decoded and performed (R71, R82); with no event left, the next clock cycle's ports are taken
in (R88); with neither, an idle cycle, which is a `NOP` (R176, R206). -/
def step (s : State) : Host.Outcome State Fault Refusal :=
  match s.events with
  | w :: rest => exec (decode w) { s with events := rest }
  | [] =>
    match s.cycles with
    | b :: more => perform (presentCycle b more) s
    | [] => execNop s

/-- Present one event word of spec/opcode_table.json as the next event: the very next step performs it. The words of a program
that was waiting come after it (log 3). -/
def State.withFetchWord (s : State) (_nbits w : Nat) : State := { s with events := BitVec.ofNat 20 w :: s.events }

end Sys2Proof.Machine
end

