-- ==== Sys2Proof/Machine/Trace.lean ====
section
/-! DEFINITION. The trace notation (spec/30_encoding.md section 5): the pseudo-instructions of R96, and the text of R95 with
its assembler (D29). What R95 leaves to the writer (runs of spaces, a leading zero, the sign of a positive number) is log 20. -/

namespace Sys2Proof.Machine

/-- `TICKS n, l`: `n` consecutive `TICK l` (R96). -/
def ticks (n : Nat) (l : Level) : List Instr := List.replicate n (.tick l)

/-- `WINDOW w`: `EDGE 0`, then `TICKS w-1, 0`, then `TICK 1` (R96). R96 gives it for `w >= 2` only; for 0 and 1 the truncated
subtraction leaves `EDGE 0`, `TICK 1` (DESIGN CHOICE, log 27). -/
def window (w : Nat) : List Instr := .edge .low :: (ticks (w - 1) .low ++ [.tick .high])

/-- The character of a decimal digit. -/
def digitChar (d : Nat) : Char := Char.ofNat (48 + d)

/-- The value of a decimal digit's character. -/
def digitValue (c : Char) : Option Nat :=
  if 48 ≤ c.toNat ∧ c.toNat ≤ 57 then some (c.toNat - 48) else none

/-- The decimal numeral of `n`, of at most `fuel + 1` digits. -/
def decimal (fuel n : Nat) : List Char :=
  match fuel with
  | 0 => [digitChar (n % 10)]
  | fuel' + 1 => if n < 10 then [digitChar n] else decimal fuel' (n / 10) ++ [digitChar (n % 10)]

/-- The numeral read so far, extended by one character. -/
def readDigit (acc : Option Nat) (c : Char) : Option Nat :=
  match acc, digitValue c with
  | some n, some d => some (10 * n + d)
  | some _, none => none
  | none, _ => none

/-- The number a decimal numeral names. -/
def readNat (cs : List Char) : Option Nat :=
  match cs with
  | [] => none
  | c :: rest => (c :: rest).foldl readDigit (some 0)

/-- The signed decimal numeral of a 16-bit operand (R95). -/
def signedText (arg : Word) : List Char :=
  if arg.toInt < 0 then '-' :: decimal 4 arg.toInt.natAbs else decimal 4 arg.toInt.natAbs

/-- A signed decimal in `-32768 .. 32767`, stored modulo 2^16 (R95). -/
def readSigned (cs : List Char) : Option Word :=
  match cs with
  | '-' :: rest =>
    match readNat rest with
    | some n => if n ≤ 32768 then some (BitVec.ofInt 16 (-(n : Int))) else none
    | none => none
  | _ =>
    match readNat cs with
    | some n => if n ≤ 32767 then some (BitVec.ofNat 16 n) else none
    | none => none

/-- The text of a level (R95). -/
def levelText (l : Level) : List Char :=
  match l with
  | .low => ['0']
  | .high => ['1']

/-- The level a text names (R95). -/
def readLevel (cs : List Char) : Option Level :=
  if cs = ['0'] then some .low else if cs = ['1'] then some .high else none

/-- The text of an event: the mnemonic of R84, then its operand (R95). The reserved code has no mnemonic there. -/
def eventText (i : Instr) : Option (List Char) :=
  match i with
  | .nop => some "NOP".toList
  | .tick lvl => some ("TICK ".toList ++ levelText lvl)
  | .edge lvl => some ("EDGE ".toList ++ levelText lvl)
  | .setDuty arg => some ("SET_DUTY ".toList ++ signedText arg)
  | .resetCal => some "RESET_CAL".toList
  | .diag => some "DIAG".toList
  | .reserved6 => none
  | .hwreset => some "HWRESET".toList

/-- A text split at a separator. -/
def splitAt (sep : Char) (cs : List Char) : List (List Char) :=
  match cs with
  | [] => [[]]
  | c :: rest =>
    if c = sep then [] :: splitAt sep rest
    else
      match splitAt sep rest with
      | [] => [[c]]
      | w :: ws => (c :: w) :: ws

/-- The words of a text, between spaces. -/
def textWords (cs : List Char) : List (List Char) := (splitAt ' ' cs).filter (fun w => !w.isEmpty)

/-- The event a list of words names (R95). -/
def readWords (ws : List (List Char)) : Option Instr :=
  match ws with
  | [m] =>
    if m = "NOP".toList then some .nop
    else if m = "RESET_CAL".toList then some .resetCal
    else if m = "DIAG".toList then some .diag
    else if m = "HWRESET".toList then some .hwreset
    else none
  | [m, a] =>
    if m = "TICK".toList then (readLevel a).map .tick
    else if m = "EDGE".toList then (readLevel a).map .edge
    else if m = "SET_DUTY".toList then (readSigned a).map .setDuty
    else none
  | _ => none

/-- The assembler on one event (R95). -/
def assembleEvent (cs : List Char) : Option Instr := readWords (textWords cs)

/-- Two bundles presented in the same cycle: the strobes of both. -/
def Bundle.join (a b : Bundle) : Bundle where
  rst := a.rst || b.rst
  cv := a.cv || b.cv
  cop := if b.cv then b.cop else a.cop
  carg := if b.cv then b.carg else a.carg
  es := a.es || b.es
  ts := a.ts || b.ts
  il := if b.es || b.ts then b.il else a.il

/-- The bundle whose expansion is the given list of events, if there is one: the events of one clock cycle in the order of R89,
with one level for both strobes (R88, R95). A line `NOP` is an idle cycle. -/
def bundleOf (is : List Instr) : Option Bundle :=
  if is = [.nop] then some Bundle.idle
  else if ((is.map asBundle).foldl Bundle.join Bundle.idle).expand = is then
    some ((is.map asBundle).foldl Bundle.join Bundle.idle)
  else none

/-- The assembler on one line: the events of one clock cycle, joined by `|` (R95). The spaces R95 writes around the bar are not
required (DESIGN CHOICE, log 20). -/
def assembleLine (cs : List Char) : Option Bundle :=
  match (splitAt '|' cs).mapM assembleEvent with
  | some is => bundleOf is
  | none => none

end Sys2Proof.Machine
end

