-- ==== Sys2Proof/Safety.lean ====
section
/-! DEFINITION. The terms in which claims are made: the access rights of spec/10_state.md R42, the transition table of
spec/41_pulse_window_fsm.md R129, the invariants of R43 to R45, R130, R159 and R232, the states a run can reach. -/

namespace Sys2Proof.Machine

/-- The registers an operation may write (the table of R42). `NOP` and the reserved code write none (R176, R177). -/
def mayWrite (i : Instr) (r : Reg) : Bool :=
  match i with
  | .nop => false
  | .tick _ =>
    match r with
    | .pendingStartTick => false
    | .dutyPercent => false
    | .dutyResolution => false
    | _ => true
  | .edge _ => decide (r = .state ∨ r = .pendingStartTick)
  | .setDuty _ => decide (r = .dutyPercent)
  | .resetCal =>
    match r with
    | .tick => false
    | .dutyPercent => false
    | .dutyLatched => false
    | .mode0 => false
    | .mode100 => false
    | .highTicks => false
    | .outLevel => false
    | .dutyResolution => false
    | _ => true
  | .diag => false
  | .reserved6 => false
  | .hwreset => decide (r ≠ .dutyResolution)

/-- The registers an operation may read (the table of R42). -/
def mayRead (i : Instr) (r : Reg) : Bool :=
  match i with
  | .nop => false
  | .tick _ => decide (r ≠ .prevInputState ∧ r ≠ .outLevel)
  | .edge _ => decide (r = .tick ∨ r = .state)
  | .setDuty _ => decide (r = .dutyResolution)
  | .resetCal => false
  | .diag => decide (r = .fixedLowTicks ∨ r = .calibDone)
  | .reserved6 => false
  | .hwreset => false

/-- The transition table of R129: the state after an event, from the state at entry; `now` is the counter after the advance. -/
def nextDetectionState (i : Instr) (s : State) : DetectionState :=
  match i, s.state with
  | .edge .low, .idleHigh => .lowPending
  | .tick .low, .lowPending =>
    if s.params.confirmTicks ≤ (elapsed (s.tick + 1#16) s.pendingStartTick).toNat then .lowActive else .lowPending
  | .tick .high, .lowPending => .idleHigh
  | .tick .high, .lowActive => .idleHigh
  | .resetCal, _ => .idleHigh
  | .hwreset, _ => .idleHigh
  | _, st => st

/-- The number of `TICK` events in a sequence (R113). -/
def tickCount (is : List Instr) : Nat := (is.filter (fun i => decide (i = .tick .low ∨ i = .tick .high))).length

/-- The place of an event among those of one clock cycle: foreground command, then `EDGE`, then `TICK` (R89). -/
def cycleRank (i : Instr) : Nat :=
  match i with
  | .hwreset => 0
  | .nop => 0
  | .setDuty _ => 1
  | .resetCal => 1
  | .diag => 1
  | .reserved6 => 1
  | .edge _ => 2
  | .tick _ => 3

/-- The batch invariant (R43): the count stays below `BATCH_N`; an empty batch has sum 0; in a batch that is not empty the
minimum and the maximum lie in the band, in order, and the sum is that of `sample_cnt` samples of which one is the minimum and
one the maximum (the second pair of bounds, which implies R43's, is DEDUCED). A finished reference lies in the band (R144). -/
abbrev State.BatchInv (s : State) : Prop :=
  s.sampleCnt.toNat < s.params.batchN ∧
  (s.sampleCnt = 0#8 → s.sumLow = 0#32) ∧
  (0 < s.sampleCnt.toNat →
    s.params.periodMinTicks ≤ s.minLow.toNat ∧ s.minLow.toNat ≤ s.maxLow.toNat ∧
    s.maxLow.toNat ≤ s.params.periodMaxTicks ∧
    s.sampleCnt.toNat * s.minLow.toNat ≤ s.sumLow.toNat ∧
    s.sumLow.toNat ≤ s.sampleCnt.toNat * s.maxLow.toNat ∧
    s.maxLow.toNat + (s.sampleCnt.toNat - 1) * s.minLow.toNat ≤ s.sumLow.toNat ∧
    s.sumLow.toNat ≤ s.minLow.toNat + (s.sampleCnt.toNat - 1) * s.maxLow.toNat) ∧
  (s.calibDone = true →
    s.params.periodMinTicks ≤ s.fixedLowTicks.toNat ∧ s.fixedLowTicks.toNat ≤ s.params.periodMaxTicks)

/-- The duty invariant (R45) and the exclusion of the two forced modes (R40). -/
abbrev State.DutyInv (s : State) : Prop :=
  s.dutyPercent.toNat ≤ s.params.dutyResolution ∧ s.dutyLatched.toNat ≤ s.params.dutyResolution ∧
  ¬(s.mode0 = true ∧ s.mode100 = true)

/-- The output of a confirmed window (R151, R154 to R156, R159): in `LOW_ACTIVE` the mode flags are those of the latched duty, a
forced mode holds its level, and in a window that is not forced the on-time is at least one tick and the output is high only
while it has not elapsed. -/
abbrev State.FramingInv (s : State) : Prop :=
  s.state = .lowActive →
    (s.mode0 = true ↔ s.dutyLatched = 0#16) ∧
    (s.mode100 = true ↔ s.params.dutyResolution ≤ s.dutyLatched.toNat) ∧
    (s.mode0 = true → s.outLevel = .low) ∧
    (s.mode100 = true → s.outLevel = .high) ∧
    (s.mode0 = false → s.mode100 = false →
      1 ≤ s.highTicks.toNat ∧
      (s.outLevel = .high → (elapsed s.tick s.dutyStartTick).toNat < s.highTicks.toNat))

/-- Phase lock (R130) and the bound of the pending phase (R232): a pending window is younger than the threshold, or was opened
in this tick; a confirmed one was confirmed at the `CONFIRM_TICKS`-th tick after its edge, at the first when
`CONFIRM_TICKS <= 1`. -/
abbrev State.PhaseInv (s : State) : Prop :=
  (s.state = .lowPending →
    elapsed s.tick s.pendingStartTick = 0#16 ∨
      (elapsed s.tick s.pendingStartTick).toNat < s.params.confirmTicks) ∧
  (s.state = .lowActive →
    (elapsed s.dutyStartTick s.lowStartTick).toNat = max s.params.confirmTicks 1)

/-- Every invariant above, of an instance with legal parameters (R13). -/
abbrev State.Inv (s : State) : Prop :=
  s.params.legal = true ∧ s.BatchInv ∧ s.DutyInv ∧ s.FramingInv ∧ s.PhaseInv

/-- The states that a run reaches from hardware reset, whatever inputs the surroundings present (R43; U2, log 18). -/
inductive Reachable (p : Params) : State → Prop where
  /-- Reset, with any inputs to come. -/
  | reset (events : List EventWord) (cycles : List BundleWord) :
      Reachable p { State.resetOf p with events := events, cycles := cycles }
  /-- One step. -/
  | step (s t : State) : Reachable p s → step s = .next t → Reachable p t

end Sys2Proof.Machine
end

