-- ==== Sys2Proof/Certificates/Slice0/Obligations.lean ====
section
/-! DEFINITION. The statements for the provers. Each docstring names the rule of spec/ it formalises, and the log entry of any
clause that is the spec's own decision or the model's choice. -/

open Sys2Proof Sys2Proof.Machine

/-! ### Encodings -/

/-- The event words of the table of R95, each by its bits (the layout and the codes are the spec's decision D4, log 16), and the
reserved code's word (R91). -/
def Obligations.TraceTableWordsDecode : Prop :=
  decode 0x00000#20 = .nop ∧ decode 0x20000#20 = .tick .low ∧ decode 0x30000#20 = .tick .high ∧
  decode 0x40000#20 = .edge .low ∧ decode 0x50000#20 = .edge .high ∧ decode 0x60032#20 = .setDuty 50#16 ∧
  decode 0x60064#20 = .setDuty 100#16 ∧ decode 0x6FFFF#20 = .setDuty (BitVec.ofInt 16 (-1)) ∧
  decode 0x80000#20 = .resetCal ∧ decode 0xA0000#20 = .diag ∧ decode 0xC0000#20 = .reserved6 ∧
  decode 0xE0000#20 = .hwreset

/-- Decoding an encoded instruction gives it back, for every instruction and operand (R84, R85; D4, log 16). -/
def Obligations.DecodeEncodeAgree : Prop :=
  ∀ i : Instr, decode (encode i) = i

/-- The match and mask form of R84: each operation is the one whose match value the word shows under the mask `0xE0000`, so
every 20-bit word decodes to exactly one (R85; D4, log 16). -/
def Obligations.DecodeFollowsMatchAndMask : Prop :=
  ∀ w : EventWord,
    (decode w = .nop ↔ w &&& 0xE0000#20 = 0x00000#20) ∧
    ((∃ l, decode w = .tick l) ↔ w &&& 0xE0000#20 = 0x20000#20) ∧
    ((∃ l, decode w = .edge l) ↔ w &&& 0xE0000#20 = 0x40000#20) ∧
    ((∃ v, decode w = .setDuty v) ↔ w &&& 0xE0000#20 = 0x60000#20) ∧
    (decode w = .resetCal ↔ w &&& 0xE0000#20 = 0x80000#20) ∧
    (decode w = .diag ↔ w &&& 0xE0000#20 = 0xA0000#20) ∧
    (decode w = .reserved6 ↔ w &&& 0xE0000#20 = 0xC0000#20) ∧
    (decode w = .hwreset ↔ w &&& 0xE0000#20 = 0xE0000#20)

/-- Unused fields are ignored (R85): re-encoding a decoded word clears exactly the fields the operation does not use, and the
canonical words are those that this leaves alone (D4, log 16). -/
def Obligations.ReencodingClearsUnusedFields : Prop :=
  ∀ w : EventWord,
    encode (decode w) =
      w &&& (0xE0000#20 ||| (if (decode w).usesLvl then 0x10000#20 else 0#20) |||
        (if (decode w).usesArg then 0x0FFFF#20 else 0#20)) ∧
    (EventWord.canonical w = true ↔ encode (decode w) = w)

/-- The 23-bit bundle and its fields are the same data, and the fields stand at the bit positions of R87: as a number the bundle
is the sum of its fields, each at the weight of its lowest bit (D5, log 16; a high level is 1, D23, log 22). -/
def Obligations.BundleWordRoundTrip : Prop :=
  (∀ w : BundleWord, (Bundle.ofWord w).toWord = w) ∧ (∀ b : Bundle, Bundle.ofWord b.toWord = b) ∧
  ∀ b : Bundle, b.toWord.toNat =
    b.rst.toNat * 2 ^ 22 + b.cv.toNat * 2 ^ 21 + b.cop.toNat * 2 ^ 19 + b.carg.toNat * 2 ^ 3 + b.es.toNat * 2 ^ 2 +
      b.ts.toNat * 2 + (if b.il = .high then 1 else 0)

/-- The events of one clock cycle (R88, R89, R90; D3, log 7): `HWRESET` alone under `rst`; otherwise exactly those of the
strobes presented, both strobes with the same level, in the order command, `EDGE`, `TICK`, at most one of each, so at most
three; and a command's code is its operation code less 3. -/
def Obligations.CycleExpansionOrder : Prop :=
  ∀ b : Bundle,
    (b.rst = true → b.expand = [.hwreset]) ∧
    (b.rst = false →
      b.expand.Pairwise (fun i j => cycleRank i < cycleRank j) ∧ b.expand.length ≤ 3 ∧
      ∀ i, i ∈ b.expand ↔
        (b.cv = true ∧ i = command b.cop b.carg) ∨ (b.es = true ∧ i = .edge b.il) ∨ (b.ts = true ∧ i = .tick b.il)) ∧
    (EventWord.op (encode (command b.cop b.carg))).toNat = b.cop.toNat + 3

/-- An event presented on the ports by itself is the event (R88), and `NOP` is the idle cycle; the bundle words are those of the
table of R95, read with the bit positions of R87 (D5, log 16), and the last row's word is an edge and a tick in one cycle. -/
def Obligations.EventAsOwnBundle : Prop :=
  (∀ i : Instr, i ≠ .nop → (asBundle i).expand = [i]) ∧ (asBundle .nop).expand = [] ∧
  (asBundle .nop).toWord = 0x000000#23 ∧ (asBundle (.tick .low)).toWord = 0x000002#23 ∧
  (asBundle (.tick .high)).toWord = 0x000003#23 ∧ (asBundle (.edge .low)).toWord = 0x000004#23 ∧
  (asBundle (.edge .high)).toWord = 0x000005#23 ∧ (asBundle (.setDuty 50#16)).toWord = 0x200190#23 ∧
  (asBundle (.setDuty 100#16)).toWord = 0x200320#23 ∧
  (asBundle (.setDuty (BitVec.ofInt 16 (-1)))).toWord = 0x27FFF8#23 ∧ (asBundle .resetCal).toWord = 0x280000#23 ∧
  (asBundle .diag).toWord = 0x300000#23 ∧ (asBundle .hwreset).toWord = 0x400000#23 ∧
  (Bundle.ofWord 0x000000#23).expand = [] ∧ (Bundle.ofWord 0x000002#23).expand = [.tick .low] ∧
  (Bundle.ofWord 0x000003#23).expand = [.tick .high] ∧ (Bundle.ofWord 0x000004#23).expand = [.edge .low] ∧
  (Bundle.ofWord 0x000005#23).expand = [.edge .high] ∧ (Bundle.ofWord 0x200190#23).expand = [.setDuty 50#16] ∧
  (Bundle.ofWord 0x200320#23).expand = [.setDuty 100#16] ∧
  (Bundle.ofWord 0x27FFF8#23).expand = [.setDuty (BitVec.ofInt 16 (-1))] ∧
  (Bundle.ofWord 0x280000#23).expand = [.resetCal] ∧ (Bundle.ofWord 0x300000#23).expand = [.diag] ∧
  (Bundle.ofWord 0x400000#23).expand = [.hwreset] ∧ (Bundle.ofWord 0x000006#23).expand = [.edge .low, .tick .low]

/-- The trace text of an event is assembled to the event, and every operation but the reserved code has one (R95; D29,
log 20). -/
def Obligations.TraceTextAssembles : Prop :=
  ∀ i : Instr,
    (eventText i = none ↔ i = .reserved6) ∧ ∀ cs, eventText i = some cs → assembleEvent cs = some i

/-! ### The step and the boundary -/

/-- A step performs the event presented next, decoded; with no event left it takes in the next clock cycle, whose events it
presents, and no register changes; with no cycle left it is an idle cycle, a `NOP` (R71, R88, R176, R206; log 2, log 3). -/
def Obligations.StepPerformsTheDecodedEvent : Prop :=
  ∀ s : State,
    (∀ w rest, s.events = w :: rest → step s = exec (decode w) { s with events := rest }) ∧
    (∀ b more, s.params.legal = true → s.events = [] → s.cycles = b :: more →
      step s = .next { s with events := (Bundle.ofWord b).expand.map encode, cycles := more }) ∧
    (s.params.legal = true → s.events = [] → s.cycles = [] → step s = .next s)

/-- A word presented with `withFetchWord` is performed by the very next step, as the table decoder reads it, and the events that
waited come after it (log 3). -/
def Obligations.PresentedWordIsPerformedNext : Prop :=
  ∀ (s : State) (n w : Nat) (i : Instr), decodeTableWord n w = some i → step (s.withFetchWord n w) = exec i s

/-- Running the steps of one clock cycle (one that takes the ports in, one for each event) is the clock cycle's function: the
step machine refines the bundle's meaning (R71, R88; log 2). -/
def Obligations.StepsRefineTheClockCycle : Prop :=
  ∀ (s : State) (b : BundleWord) (more : List BundleWord), s.events = [] → s.cycles = b :: more →
    Sys2Proof.core.run (1 + (Bundle.ofWord b).expand.length) s = clock (Bundle.ofWord b) { s with cycles := more }

/-- An idle cycle, with no strobe presented, is equivalent to one `NOP` (R88). -/
def Obligations.IdleCycleIsOneNop : Prop :=
  ∀ (b : Bundle) (s : State), b.rst = false → b.cv = false → b.es = false → b.ts = false → clock b s = exec .nop s

/-- The ports of each clock cycle show the state that the earlier cycles left: the level, the counter and the diagnostic result
(R76, R81; D31, log 17). -/
def Obligations.PortsShowTheEarlierCycles : Prop :=
  ∀ (bs : List Bundle) (b : Bundle) (s t : State), runCycles bs s = .next t →
    waveform (bs ++ [b]) s =
      waveform bs s ++ [{ outLevel := t.outLevel, tickNow := t.tick, diag := diagResult t }]

/-! ### Totality, parameters, access rights -/

/-- Every operation is defined for every state and every operand (R190): an instance with a legal parameter set performs it.
(That the reserved code is performed too, as the hardware does, is log 5.) -/
def Obligations.EveryOperationCompletes : Prop :=
  ∀ (i : Instr) (s : State), s.params.legal = true → ∃ t, exec i s = .next t

/-- A parameter set that breaks a constraint of R13 is refused by every operation and by the step (D28, log 6). -/
def Obligations.IllegalParametersAreRefused : Prop :=
  ∀ s : State,
    ¬(s.params.confirmTicks ≤ 65535 ∧ s.params.minLowTicks ≤ 65535 ∧ s.params.periodMinTicks ≤ s.params.periodMaxTicks ∧
      s.params.periodMaxTicks ≤ 65535 ∧ 3 ≤ s.params.batchN ∧ s.params.batchN ≤ 255 ∧ 1 ≤ s.params.dutyResolution ∧
      s.params.dutyResolution ≤ 32767 ∧ s.params.dutyDefault ≤ s.params.dutyResolution ∧
      s.params.defaultLowTicks ≤ 65535) →
    (∀ i, exec i s = .refused .illegalParameters) ∧ step s = .refused .illegalParameters

/-- No step changes a parameter or the constant `duty_resolution` (R14, R38, R75; log 1). -/
def Obligations.StepsKeepTheParameters : Prop :=
  ∀ s t : State, step s = .next t → t.params = s.params ∧ t.dutyResolution = BitVec.ofNat 16 s.params.dutyResolution

/-- The access table of R42, with the rows of `NOP` and the reserved code from R176 and R177. Writes, the frame of every
instruction: a register the table does not let the operation write keeps its value; the parameters and the inputs that wait,
fields of the model's own (log 1, log 2), stay too. Reads: two states that agree on the registers the table lets the operation read are
treated alike: each register is written with the same value in both, or kept in both, and the result returned is the same. -/
def Obligations.RegisterAccessTable : Prop :=
  (∀ (i : Instr) (s t : State), exec i s = .next t →
    (∀ r : Reg, mayWrite i r = false → t.read r = s.read r) ∧
    t.params = s.params ∧ t.events = s.events ∧ t.cycles = s.cycles) ∧
  ∀ (i : Instr) (s t s' t' : State), s'.params = s.params → (∀ r : Reg, mayRead i r = true → s'.read r = s.read r) →
    exec i s = .next t → exec i s' = .next t' →
    returned i s' = returned i s ∧
    ∀ r : Reg, t'.read r = t.read r ∨ (t.read r = s.read r ∧ t'.read r = s'.read r)

/-- `prev_input_state` influences no other register (R36): a sequence of events run from a state that differs in it alone ends
in a state that differs at most in it (when it is written is D16, log 12). -/
def Obligations.PreviousInputInfluencesNothing : Prop :=
  ∀ (is : List Instr) (s t : State) (l : Level), run is s = .next t →
    ∃ l', run is { s with prevInputState := l } = .next { t with prevInputState := l' }

/-! ### Tick Clock -/

/-- `elapsed(a, b)` (R112): the 16-bit wrapping difference read as unsigned, its corner cases and the source's worked example. -/
def Obligations.ElapsedWrapsUnsigned : Prop :=
  (∀ a b : Word,
    (elapsed a b).toNat = (a.toNat + 65536 - b.toNat) % 65536 ∧
    (a = b → (elapsed a b).toNat = 0) ∧
    (a.toNat < b.toNat → (elapsed a b).toNat = a.toNat + 65536 - b.toNat) ∧
    (b.toNat ≤ a.toNat → (elapsed a b).toNat = a.toNat - b.toNat)) ∧
  elapsed 5#16 65530#16 = 11#16

/-- The counter counts the `TICK` events and nothing else, and `elapsed` between two stamps separated by `k` of them is
`k mod 65536` (R111, R113). -/
def Obligations.ElapsedCountsTicksModuloTheRange : Prop :=
  ∀ (is : List Instr) (s t : State), .hwreset ∉ is → run is s = .next t →
    t.tick = s.tick + BitVec.ofNat 16 (tickCount is) ∧ (elapsed (now t) (now s)).toNat = tickCount is % 65536

/-! ### Foreground operations and reset -/

/-- `NOP` (R176): it changes no register and returns nothing; its event word is `0x00000`, and on the ports it is a cycle with
every strobe 0. -/
def Obligations.NopChangesNothing : Prop :=
  decode 0x00000#20 = .nop ∧
  ∀ s : State, s.params.legal = true →
    exec .nop s = .next s ∧ returned .nop s = none ∧
    ∀ b : Bundle, b.rst = false → b.cv = false → b.es = false → b.ts = false → clock b s = .next s

/-- The reserved code is performed as `NOP` by the hardware (R91, R177; D25), and the model performs it so (log 5): as an event
word, and as a command. -/
def Obligations.ReservedCodeActsAsNop : Prop :=
  ∀ s : State, s.params.legal = true →
    exec .reserved6 s = .next s ∧ (∀ w : EventWord, EventWord.op w = 6#3 → exec (decode w) s = .next s) ∧
    ∀ carg, exec (command 3#2 carg) s = .next s

/-- `DIAG` (R174; the form of the result is D19, log 14): no register changes; the result is (0, 0, 0) without a reference, and
else the reference and the floor of `10000 / (2 * fixed_low_ticks)`, at most 5000, with 0 for a zero divisor. -/
def Obligations.DiagReturnsTheReference : Prop :=
  ∀ s : State, s.params.legal = true →
    exec .diag s = .next s ∧
    ∃ d, returned .diag s = some d ∧ d.valid = s.calibDone ∧ d.freq.toNat ≤ 5000 ∧
      (s.calibDone = false → d.ticks = 0#16 ∧ d.freq = 0#16) ∧
      (s.calibDone = true →
        d.ticks = s.fixedLowTicks ∧
        d.freq.toNat = if s.fixedLowTicks = 0#16 then 0 else 10000 / (2 * s.fixedLowTicks.toNat))

/-- `SET_DUTY` (R171, the clamping law, on the signed 16-bit operand): it completes, `duty_percent` becomes
`min(max(v, 0), duty_resolution)`, and nothing else changes (R170). -/
def Obligations.SetDutyClampsTheRequest : Prop :=
  ∀ (arg : Word) (s : State), s.params.legal = true →
    ∃ d : Word, (d.toNat : Int) = min (max arg.toInt 0) (s.params.dutyResolution : Int) ∧
      exec (.setDuty arg) s = .next { s with dutyPercent := d }

/-- `RESET_CAL` (R172): the eleven PulseWindowManager fields become zero, `min_low` too, the state becomes `IDLE_HIGH`, in every
state. That nothing else changes (the counter, the duty registers, the output) is R173, the spec's decision D15 (log 11). Its
event word is `0x80000`, and on the ports it is command 1. -/
def Obligations.ResetCalZeroesTheWindowManager : Prop :=
  decode 0x80000#20 = .resetCal ∧ (∀ carg, command 1#2 carg = .resetCal) ∧
  ∀ s : State, s.params.legal = true →
    exec .resetCal s = .next
      { s with
        pendingStartTick := 0#16, lowStartTick := 0#16, dutyStartTick := 0#16, lastLowTicks := 0#16,
        fixedLowTicks := 0#16, sumLow := 0#32, minLow := 0#16, maxLow := 0#16, sampleCnt := 0#8,
        calibDone := false, prevInputState := .low, state := .idleHigh }

/-- `HWRESET` (R220; values D9, log 4): every register takes its reset value, whatever the state was; the event word is `0xE0000`
and on the ports `rst` alone decides. -/
def Obligations.HardwareResetGivesTheResetState : Prop :=
  decode 0xE0000#20 = .hwreset ∧
  ∀ s : State, s.params.legal = true →
    exec .hwreset s = .next
      { params := s.params, tick := 0#16, state := .idleHigh, pendingStartTick := 0#16, lowStartTick := 0#16,
        dutyStartTick := 0#16, lastLowTicks := 0#16, fixedLowTicks := 0#16, sumLow := 0#32, minLow := 0xFFFF#16,
        maxLow := 0#16, sampleCnt := 0#8, calibDone := false, prevInputState := .low,
        dutyPercent := BitVec.ofNat 16 s.params.dutyDefault, dutyLatched := 0#16, mode0 := false, mode100 := false,
        highTicks := 0#16, outLevel := .low, events := s.events, cycles := s.cycles } ∧
    exec .hwreset s = .next { State.resetOf s.params with events := s.events, cycles := s.cycles } ∧
    ∀ b : Bundle, b.rst = true → clock b s = exec .hwreset s

/-- `SET_DUTY v` twice and `RESET_CAL` twice leave the state that once leaves (R68). -/
def Obligations.ForegroundWritesAreIdempotent : Prop :=
  ∀ (arg : Word) (s : State),
    run [.setDuty arg, .setDuty arg] s = run [.setDuty arg] s ∧ run [.resetCal, .resetCal] s = run [.resetCal] s

/-! ### EDGE and TICK -/

/-- `EDGE lvl` (R120): a low sample in `IDLE_HIGH` stamps the pending window and enters `LOW_PENDING`; in every other case
nothing changes. The event words are `0x40000` and `0x50000`; on the ports, the edge strobe with the level. -/
def Obligations.EdgeOpensAPendingWindow : Prop :=
  decode 0x40000#20 = .edge .low ∧ decode 0x50000#20 = .edge .high ∧
  ∀ s : State, s.params.legal = true →
    (s.state = .idleHigh →
      exec (.edge .low) s = .next { s with pendingStartTick := s.tick, state := .lowPending }) ∧
    (s.state ≠ .idleHigh → exec (.edge .low) s = .next s) ∧
    exec (.edge .high) s = .next s ∧
    ∀ l, clock (asBundle (.edge l)) s = exec (.edge l) s

/-- `TICK` in `IDLE_HIGH` (R122): whatever the level, only the counter and `prev_input_state` change. -/
def Obligations.TickInIdleOnlyCounts : Prop :=
  ∀ (l : Level) (s : State), s.params.legal = true → s.state = .idleHigh →
    exec (.tick l) s = .next { s with tick := s.tick + 1#16, prevInputState := l }

/-- `TICK 1` in `LOW_PENDING` (R125): the window is rejected as noise and nothing of it is recorded, even if the threshold is
reached in that tick. -/
def Obligations.HighSampleRejectsThePendingWindow : Prop :=
  ∀ s : State, s.params.legal = true → s.state = .lowPending →
    exec (.tick .high) s = .next { s with tick := s.tick + 1#16, state := .idleHigh, prevInputState := .high }

/-- `TICK 0` in `LOW_PENDING` below the threshold (R123, its third case, the spec's decision D21, log 13): the block stays and
writes only the counter and `prev_input_state`. -/
def Obligations.PendingWindowWaitsForTheThreshold : Prop :=
  ∀ s : State, s.params.legal = true → s.state = .lowPending →
    (elapsed (s.tick + 1#16) s.pendingStartTick).toNat < s.params.confirmTicks →
    exec (.tick .low) s = .next { s with tick := s.tick + 1#16, prevInputState := .low }

/-- Confirmation (R124): `TICK 0` in `LOW_PENDING` at or past the threshold (R123) enters `LOW_ACTIVE`, with the window's start
at the edge's stamp and the on-time's start at this tick. The registers of the output side are those of
`ConfirmationSetsTheOutput`; every other register is kept. -/
def Obligations.ThresholdConfirmsTheWindow : Prop :=
  ∀ s : State, s.params.legal = true → s.state = .lowPending →
    s.params.confirmTicks ≤ (elapsed (s.tick + 1#16) s.pendingStartTick).toNat →
    ∃ t, exec (.tick .low) s = .next t ∧
      t = { s with
        tick := s.tick + 1#16, state := .lowActive, lowStartTick := s.pendingStartTick,
        dutyStartTick := s.tick + 1#16, prevInputState := .low,
        dutyLatched := t.dutyLatched, mode0 := t.mode0, mode100 := t.mode100, highTicks := t.highTicks,
        outLevel := t.outLevel }

/-- The output side of a confirmation (R150, R151, R152, R154): the target is latched, the mode flags are computed from it, a
forced window gets its level and keeps `high_ticks` (D18, log 13), any other goes high at once with the on-time computed from
the calibrated reference, else the last accepted width if there is one, else the default. -/
def Obligations.ConfirmationSetsTheOutput : Prop :=
  ∀ s t : State, s.state = .lowPending → exec (.tick .low) s = .next t → t.state = .lowActive →
    t.dutyLatched = s.dutyPercent ∧
    (t.mode0 = true ↔ s.dutyPercent = 0#16) ∧
    (t.mode100 = true ↔ s.params.dutyResolution ≤ s.dutyPercent.toNat) ∧
    (t.mode0 = true → t.outLevel = .low ∧ t.highTicks = s.highTicks) ∧
    (t.mode0 = false → t.outLevel = .high) ∧
    (t.mode0 = false → t.mode100 = true → t.highTicks = s.highTicks) ∧
    (t.mode0 = false → t.mode100 = false →
      (s.calibDone = true → t.highTicks = onTime s.params s.fixedLowTicks s.dutyPercent) ∧
      (s.calibDone = false → s.lastLowTicks ≠ 0#16 → t.highTicks = onTime s.params s.lastLowTicks s.dutyPercent) ∧
      (s.calibDone = false → s.lastLowTicks = 0#16 →
        t.highTicks = onTime s.params (BitVec.ofNat 16 s.params.defaultLowTicks) s.dutyPercent))

/-- The on-time (R153; the half-up rounding is the spec's decision D10, log 9): for a duty strictly between 0 and the resolution
the 32-bit computation is exact, the value is the rounded quotient raised to at least 1, and it is at most the estimate, or 1. -/
def Obligations.OnTimeIsTheRoundedQuotient : Prop :=
  ∀ (p : Params) (est duty : Word), p.legal = true → 1 ≤ duty.toNat → duty.toNat < p.dutyResolution →
    (onTime p est duty).toNat =
      max ((est.toNat * duty.toNat + p.dutyResolution / 2) / p.dutyResolution) 1 ∧
    1 ≤ (onTime p est duty).toNat ∧ (onTime p est duty).toNat ≤ max est.toNat 1

/-- The same without the tie rule: whichever way a half is rounded (U9), the on-time lies between the floor and the ceiling of
the quotient, but for the minimum of 1 (R153). -/
def Obligations.OnTimeIsWithinOneOfTheQuotient : Prop :=
  ∀ (p : Params) (est duty : Word), p.legal = true → 1 ≤ duty.toNat → duty.toNat < p.dutyResolution →
    est.toNat * duty.toNat / p.dutyResolution ≤ (onTime p est duty).toNat ∧
    (onTime p est duty).toNat ≤
      max ((est.toNat * duty.toNat + p.dutyResolution - 1) / p.dutyResolution) 1

/-- `TICK 0` in `LOW_ACTIVE` (R126, R155, R156; D14, D22, log 10, log 13): forced modes re-assert their level, a window that is
not forced goes low once the on-time is reached and is not written before; only `out_level`, the counter and
`prev_input_state` change. -/
def Obligations.LowSampleShapesTheOutput : Prop :=
  ∀ s : State, s.params.legal = true → s.state = .lowActive →
    exec (.tick .low) s = .next
      { s with
        tick := s.tick + 1#16, prevInputState := .low,
        outLevel :=
          if s.mode0 = true then .low
          else if s.mode100 = true then .high
          else if s.highTicks.toNat ≤ (elapsed (s.tick + 1#16) s.dutyStartTick).toNat then .low
          else s.outLevel }

/-- The window close below the noise floor (R127): the output is forced low, the mode flags are cleared, the state returns to
`IDLE_HIGH`, and the window is discarded entirely. -/
def Obligations.CloseBelowTheFloorDiscards : Prop :=
  ∀ s : State, s.params.legal = true → s.state = .lowActive →
    (elapsed (s.tick + 1#16) s.lowStartTick).toNat < s.params.minLowTicks →
    exec (.tick .high) s = .next
      { s with
        tick := s.tick + 1#16, state := .idleHigh, outLevel := .low, mode0 := false, mode100 := false,
        prevInputState := .high }

/-- The close of an accepted window outside the band (R127, R141, R142): the fallback estimate takes the width and the batch is
untouched. -/
def Obligations.CloseOutOfBandKeepsTheBatch : Prop :=
  ∀ s : State, s.params.legal = true → s.state = .lowActive →
    s.params.minLowTicks ≤ (elapsed (s.tick + 1#16) s.lowStartTick).toNat →
    ((elapsed (s.tick + 1#16) s.lowStartTick).toNat < s.params.periodMinTicks ∨
      s.params.periodMaxTicks < (elapsed (s.tick + 1#16) s.lowStartTick).toNat) →
    exec (.tick .high) s = .next
      { s with
        tick := s.tick + 1#16, state := .idleHigh, outLevel := .low, mode0 := false, mode100 := false,
        prevInputState := .high, lastLowTicks := elapsed (s.tick + 1#16) s.lowStartTick }

/-- The close of an accepted window in the band that does not complete the batch (R127, R141, R143): the width is added, the
minimum and the maximum are those of the batch with it, and the count grows by one. -/
def Obligations.CloseInBandFeedsTheBatch : Prop :=
  ∀ (s : State) (w : Word), s.params.legal = true → s.BatchInv → s.state = .lowActive →
    w = elapsed (s.tick + 1#16) s.lowStartTick → s.params.minLowTicks ≤ w.toNat →
    s.params.periodMinTicks ≤ w.toNat → w.toNat ≤ s.params.periodMaxTicks →
    s.sampleCnt.toNat + 1 < s.params.batchN →
    ∃ t, exec (.tick .high) s = .next t ∧
      t = { s with
        tick := s.tick + 1#16, state := .idleHigh, outLevel := .low, mode0 := false, mode100 := false,
        prevInputState := .high, lastLowTicks := w, sumLow := t.sumLow, minLow := t.minLow, maxLow := t.maxLow,
        sampleCnt := t.sampleCnt } ∧
      t.sumLow.toNat = s.sumLow.toNat + w.toNat ∧ t.sampleCnt.toNat = s.sampleCnt.toNat + 1 ∧
      t.minLow.toNat = (if s.sampleCnt = 0#8 then w.toNat else min s.minLow.toNat w.toNat) ∧
      t.maxLow.toNat = if s.sampleCnt = 0#8 then w.toNat else max s.maxLow.toNat w.toNat

/-- The close of the window that completes the batch (R127, R141, R144): the trimmed mean of the batch with this width, its
minimum and maximum taken out, divided by `BATCH_N - 2`, floor, becomes the reference, `calib_done` is set, and the batch is
empty again, all in this operation. -/
def Obligations.CloseCompletingTheBatchCalibrates : Prop :=
  ∀ (s : State) (w : Word), s.params.legal = true → s.BatchInv → s.state = .lowActive →
    w = elapsed (s.tick + 1#16) s.lowStartTick → s.params.minLowTicks ≤ w.toNat →
    s.params.periodMinTicks ≤ w.toNat → w.toNat ≤ s.params.periodMaxTicks →
    s.sampleCnt.toNat + 1 = s.params.batchN →
    ∃ f : Word,
      f.toNat =
        (s.sumLow.toNat + w.toNat - min s.minLow.toNat w.toNat - max s.maxLow.toNat w.toNat) / (s.params.batchN - 2) ∧
      exec (.tick .high) s = .next
        { s with
          tick := s.tick + 1#16, state := .idleHigh, outLevel := .low, mode0 := false, mode100 := false,
          prevInputState := .high, lastLowTicks := w, fixedLowTicks := f, calibDone := true, sumLow := 0#32,
          sampleCnt := 0#8, minLow := 0xFFFF#16, maxLow := 0#16 }

/-- The transition table (R129): the state after every event is the one the table gives, for every state at entry. -/
def Obligations.TransitionTableIsComplete : Prop :=
  ∀ (i : Instr) (s t : State), exec i s = .next t → t.state = nextDetectionState i s

/-- What a window may touch, and when (R44, R131): `out_level`, `last_low_ticks`, `fixed_low_ticks`, `calib_done` and the batch
registers change only at the transition from `LOW_PENDING` to `LOW_ACTIVE`, at a `TICK` in `LOW_ACTIVE`, and at the two resets;
`RESET_CAL` does not change `out_level`. -/
def Obligations.OnlyConfirmedWindowsTouchOutputAndCalibration : Prop :=
  ∀ (i : Instr) (s t : State), exec i s = .next t →
    (t.outLevel = s.outLevel ∧ t.lastLowTicks = s.lastLowTicks ∧ t.fixedLowTicks = s.fixedLowTicks ∧
      t.calibDone = s.calibDone ∧ t.sumLow = s.sumLow ∧ t.minLow = s.minLow ∧ t.maxLow = s.maxLow ∧
      t.sampleCnt = s.sampleCnt) ∨
    (s.state = .lowPending ∧ t.state = .lowActive) ∨
    (s.state = .lowActive ∧ ∃ l, i = .tick l) ∨
    (i = .resetCal ∧ t.outLevel = s.outLevel) ∨ i = .hwreset

/-! ### Invariants -/

/-- The state after hardware reset, of every legal parameter set, meets every invariant (R43, R45, R220; values D9, log 4). -/
def Obligations.ResetMeetsTheInvariants : Prop :=
  ∀ p : Params, p.legal = true → (State.resetOf p).Inv

/-- The batch invariant is kept by every step (R43; the bounds of the sum beyond R43's and the bounds of the reference are
DEDUCED, R144). -/
def Obligations.StepsKeepTheBatchInvariant : Prop :=
  ∀ s t : State, s.params.legal = true → s.BatchInv → step s = .next t → t.BatchInv

/-- The duty invariant is kept by every step (R45, R40). -/
def Obligations.StepsKeepTheDutyInvariant : Prop :=
  ∀ s t : State, s.params.legal = true → s.DutyInv → step s = .next t → t.DutyInv

/-- Output window framing is kept by every step (R159, R156): while a window that is not forced is active, the output is high
only before the on-time has elapsed; a forced window holds its level. -/
def Obligations.StepsKeepTheOutputFraming : Prop :=
  ∀ s t : State, s.params.legal = true → s.DutyInv → s.FramingInv → step s = .next t → t.FramingInv

/-- Phase lock is kept by every step (R130, R232): a confirmed window's on-time starts the confirmation threshold after its edge,
one tick when the threshold is 0 or 1, and a pending window never outlives the threshold. -/
def Obligations.StepsKeepThePhaseLock : Prop :=
  ∀ s t : State, s.params.legal = true → s.PhaseInv → step s = .next t → t.PhaseInv

/-- Every state that a run reaches from hardware reset, whatever the inputs, meets every invariant (spec/10_state.md section 7). -/
def Obligations.ReachableStatesMeetTheInvariants : Prop :=
  ∀ (p : Params) (s : State), p.legal = true → Reachable p s → s.Inv

/-- Outside a confirmed window the output stays low under every operation but `RESET_CAL` (R157, R159; the exception is R231). -/
def Obligations.OutputStaysLowOutsideWindows : Prop :=
  ∀ (i : Instr) (s t : State), i ≠ .resetCal → (s.state ≠ .lowActive → s.outLevel = .low) → exec i s = .next t →
    (t.state ≠ .lowActive → t.outLevel = .low)

/-! ### Sequences of events -/

/-- Only a low edge leaves `IDLE_HIGH` (R122, R234), and until one comes nothing changes the output: after a `RESET_CAL` in a
confirmed window the output keeps its level (R173, R231; D15, log 11). -/
def Obligations.OnlyALowEdgeLeavesIdle : Prop :=
  ∀ (is : List Instr) (s t : State), .edge .low ∉ is → .hwreset ∉ is →
    (s.state = .idleHigh → run is s = .next t → t.state = .idleHigh ∧ t.outLevel = s.outLevel) ∧
    (run (.resetCal :: is) s = .next t → t.state = .idleHigh ∧ t.outLevel = s.outLevel)

/-- Window latch immutability (R158): while a confirmed window is active (no high sample, no reset), no sequence of duty changes,
edges, queries and low ticks changes `duty_latched`, `mode0`, `mode100` or `high_ticks`. -/
def Obligations.LatchedDutyHoldsForTheWindow : Prop :=
  ∀ (is : List Instr) (s t : State), .tick .high ∉ is → .resetCal ∉ is → .hwreset ∉ is →
    s.state = .lowActive → run is s = .next t →
    t.state = .lowActive ∧ t.dutyLatched = s.dutyLatched ∧ t.mode0 = s.mode0 ∧ t.mode100 = s.mode100 ∧
    t.highTicks = s.highTicks

/-- The on-time lasts exactly `high_ticks` ticks: from a confirming tick in a window that is not forced, the output after `n`
further low ticks is high exactly while `n < high_ticks`, however long the window lasts, past the counter's wrap too
(R155, R159, R233; D14, log 10). -/
def Obligations.OnTimeLastsHighTicks : Prop :=
  ∀ (n : Nat) (s : State), s.params.legal = true → s.state = .lowActive → s.mode0 = false → s.mode100 = false →
    s.dutyStartTick = s.tick → s.outLevel = .high → 1 ≤ s.highTicks.toNat →
    ∃ t, run (ticks n .low) s = .next t ∧ t.state = .lowActive ∧
      t.tick = s.tick + BitVec.ofNat 16 n ∧ (t.outLevel = .high ↔ n < s.highTicks.toNat)

/-- Phase lock as a run (R130): from `IDLE_HIGH`, a low edge followed by low ticks is confirmed by the tick number
`max(CONFIRM_TICKS, 1)` and by none before it; the window starts at the edge, the on-time at that tick. -/
def Obligations.EdgeFixesThePhaseOfTheOutput : Prop :=
  ∀ (s : State) (k : Nat), s.params.legal = true → s.state = .idleHigh → k ≤ max s.params.confirmTicks 1 →
    ∃ t, run (.edge .low :: ticks k .low) s = .next t ∧ t.tick = s.tick + BitVec.ofNat 16 k ∧
      (k < max s.params.confirmTicks 1 → t.state = .lowPending ∧ t.outLevel = s.outLevel) ∧
      (k = max s.params.confirmTicks 1 →
        t.state = .lowActive ∧ t.lowStartTick = s.tick ∧ t.dutyStartTick = t.tick)

/-- `WINDOW w` measures `w` (R96, R127), modulo the counter's range for a window that outlasts it (R232): the block is idle again
with the output low, `w` ticks later; the fallback estimate is the width if that is at or above the noise floor, and is kept if
it is below. -/
def Obligations.WindowMeasuresItsWidth : Prop :=
  ∀ (s : State) (w : Nat), s.params.legal = true → s.state = .idleHigh → 2 ≤ w → s.params.confirmTicks ≤ w - 1 →
    ∃ t, run (window w) s = .next t ∧ t.state = .idleHigh ∧ t.outLevel = .low ∧
      t.tick = s.tick + BitVec.ofNat 16 w ∧
      (s.params.minLowTicks ≤ w % 65536 → t.lastLowTicks = BitVec.ofNat 16 w) ∧
      (w % 65536 < s.params.minLowTicks → t.lastLowTicks = s.lastLowTicks)

/-- Trimmed-mean correctness (R143, R144, the source's property): feeding a batch of `BATCH_N` accepted widths in the band, from
an empty batch, makes the reference `(sum - min - max) / (BATCH_N - 2)`, sets `calib_done` and empties the batch (the sentinel
`0xFFFF` left in `min_low` is D8, log 22); a shorter list leaves `calib_done` and the reference alone and counts. A list longer
than one batch is not covered. -/
def Obligations.TrimmedMeanOfTheBatch : Prop :=
  ∀ (s : State) (v : Word) (vs : List Word), s.params.legal = true → s.sampleCnt = 0#8 → s.sumLow = 0#32 →
    (∀ x ∈ v :: vs, s.params.periodMinTicks ≤ x.toNat ∧ x.toNat ≤ s.params.periodMaxTicks) →
    ∀ t, t = (v :: vs).foldl (fun st x => calibrate x st) s →
    ((v :: vs).length = s.params.batchN →
      t.calibDone = true ∧ t.sampleCnt = 0#8 ∧ t.sumLow = 0#32 ∧ t.minLow = 0xFFFF#16 ∧ t.maxLow = 0#16 ∧
      t.lastLowTicks = (v :: vs).getLastD v ∧
      t.fixedLowTicks.toNat =
        (((v :: vs).map BitVec.toNat).sum - (vs.map BitVec.toNat).foldl min v.toNat -
          (vs.map BitVec.toNat).foldl max v.toNat) / (s.params.batchN - 2)) ∧
    ((v :: vs).length < s.params.batchN →
      t.calibDone = s.calibDone ∧ t.fixedLowTicks = s.fixedLowTicks ∧ t.sampleCnt.toNat = (v :: vs).length ∧
      t.sumLow.toNat = ((v :: vs).map BitVec.toNat).sum)
end

