-- ==== Sys2Proof/Laws/Decode.lean ====
section
/-! SUPPORT. The fields of an event word and of a bundle word, and what the decoder can answer. -/

namespace Sys2Proof

@[simp] theorem EventWord.op_make (o : BitVec 3) (l : BitVec 1) (a : Word) : EventWord.op (EventWord.make o l a) = o := by
  unfold EventWord.op EventWord.make
  ext i hi
  interval_cases i <;> simp [BitVec.getElem_or]

@[simp] theorem EventWord.arg_make (o : BitVec 3) (l : BitVec 1) (a : Word) : EventWord.arg (EventWord.make o l a) = a := by
  unfold EventWord.arg EventWord.make
  ext i hi
  interval_cases i <;> simp [BitVec.getElem_or]

@[simp] theorem Level.ofBit_toBit (l : Level) : Level.ofBit l.toBit = l := by cases l <;> rfl

@[simp] theorem Level.toBit_ofBit (b : Bool) : (Level.ofBit b).toBit = b := by cases b <;> rfl

@[simp] theorem EventWord.lvl_make (o : BitVec 3) (l : Level) (a : Word) :
    EventWord.lvl (EventWord.make o l.bits a) = l := by
  unfold EventWord.lvl EventWord.make
  cases l <;> simp [Level.bits, Level.toBit, Level.ofBit]

/-- An event word is its three fields. -/
theorem EventWord.make_fields (w : EventWord) :
    EventWord.make (EventWord.op w) (EventWord.lvl w).bits (EventWord.arg w) = w := by
  apply BitVec.eq_of_getLsbD_eq
  intro i hi
  simp only [EventWord.make, EventWord.op, EventWord.lvl, EventWord.arg, Level.bits, Level.toBit_ofBit,
    BitVec.getLsbD_or, BitVec.getLsbD_shiftLeft, BitVec.getLsbD_setWidth, BitVec.getLsbD_extractLsb',
    BitVec.getLsbD_ofBool]
  interval_cases i <;> simp

/-- Everything the decoder can answer, by the field `op` (R84). -/
theorem decode_cases (w : EventWord) :
    (EventWord.op w = 0#3 ∧ decode w = .nop) ∨
    (EventWord.op w = 1#3 ∧ decode w = .tick (EventWord.lvl w)) ∨
    (EventWord.op w = 2#3 ∧ decode w = .edge (EventWord.lvl w)) ∨
    (EventWord.op w = 3#3 ∧ decode w = .setDuty (EventWord.arg w)) ∨
    (EventWord.op w = 4#3 ∧ decode w = .resetCal) ∨
    (EventWord.op w = 5#3 ∧ decode w = .diag) ∨
    (EventWord.op w = 6#3 ∧ decode w = .reserved6) ∨
    (EventWord.op w = 7#3 ∧ decode w = .hwreset) := by
  have all : ∀ o : BitVec 3, o = 0#3 ∨ o = 1#3 ∨ o = 2#3 ∨ o = 3#3 ∨ o = 4#3 ∨ o = 5#3 ∨ o = 6#3 ∨ o = 7#3 := by
    decide
  unfold decode
  rcases all (EventWord.op w) with h | h | h | h | h | h | h | h <;> rw [h] <;> simp

namespace Machine

/-- Everything a command code can stand for (R90, R91). -/
theorem command_cases (cop : BitVec 2) (carg : Word) :
    (cop = 0#2 ∧ command cop carg = .setDuty carg) ∨ (cop = 1#2 ∧ command cop carg = .resetCal) ∨
    (cop = 2#2 ∧ command cop carg = .diag) ∨ (cop = 3#2 ∧ command cop carg = .reserved6) := by
  have all : ∀ c : BitVec 2, c = 0#2 ∨ c = 1#2 ∨ c = 2#2 ∨ c = 3#2 := by decide
  rcases all cop with h | h | h | h <;> subst h <;> simp [command]

end Machine

end Sys2Proof
end

