-- ==== Sys2Proof/Laws/State.lean ====
section
/-! SUPPORT. The fields of each named update of the state: one lemma per field, true by definition, for simp. -/

namespace Sys2Proof.Machine

/-! ### advance -/

@[simp] theorem advance_params (s : State) : (advance s).params = s.params := rfl
@[simp] theorem advance_tick (s : State) : (advance s).tick = s.tick + 1#16 := rfl
@[simp] theorem advance_state (s : State) : (advance s).state = s.state := rfl
@[simp] theorem advance_pendingStartTick (s : State) : (advance s).pendingStartTick = s.pendingStartTick := rfl
@[simp] theorem advance_lowStartTick (s : State) : (advance s).lowStartTick = s.lowStartTick := rfl
@[simp] theorem advance_dutyStartTick (s : State) : (advance s).dutyStartTick = s.dutyStartTick := rfl
@[simp] theorem advance_lastLowTicks (s : State) : (advance s).lastLowTicks = s.lastLowTicks := rfl
@[simp] theorem advance_fixedLowTicks (s : State) : (advance s).fixedLowTicks = s.fixedLowTicks := rfl
@[simp] theorem advance_sumLow (s : State) : (advance s).sumLow = s.sumLow := rfl
@[simp] theorem advance_minLow (s : State) : (advance s).minLow = s.minLow := rfl
@[simp] theorem advance_maxLow (s : State) : (advance s).maxLow = s.maxLow := rfl
@[simp] theorem advance_sampleCnt (s : State) : (advance s).sampleCnt = s.sampleCnt := rfl
@[simp] theorem advance_calibDone (s : State) : (advance s).calibDone = s.calibDone := rfl
@[simp] theorem advance_prevInputState (s : State) : (advance s).prevInputState = s.prevInputState := rfl
@[simp] theorem advance_dutyPercent (s : State) : (advance s).dutyPercent = s.dutyPercent := rfl
@[simp] theorem advance_dutyLatched (s : State) : (advance s).dutyLatched = s.dutyLatched := rfl
@[simp] theorem advance_mode0 (s : State) : (advance s).mode0 = s.mode0 := rfl
@[simp] theorem advance_mode100 (s : State) : (advance s).mode100 = s.mode100 := rfl
@[simp] theorem advance_highTicks (s : State) : (advance s).highTicks = s.highTicks := rfl
@[simp] theorem advance_outLevel (s : State) : (advance s).outLevel = s.outLevel := rfl
@[simp] theorem advance_events (s : State) : (advance s).events = s.events := rfl
@[simp] theorem advance_cycles (s : State) : (advance s).cycles = s.cycles := rfl

/-! ### outWrite -/

@[simp] theorem outWrite_params (l : Level) (s : State) : (outWrite l s).params = s.params := rfl
@[simp] theorem outWrite_tick (l : Level) (s : State) : (outWrite l s).tick = s.tick := rfl
@[simp] theorem outWrite_state (l : Level) (s : State) : (outWrite l s).state = s.state := rfl
@[simp] theorem outWrite_pendingStartTick (l : Level) (s : State) : (outWrite l s).pendingStartTick = s.pendingStartTick := rfl
@[simp] theorem outWrite_lowStartTick (l : Level) (s : State) : (outWrite l s).lowStartTick = s.lowStartTick := rfl
@[simp] theorem outWrite_dutyStartTick (l : Level) (s : State) : (outWrite l s).dutyStartTick = s.dutyStartTick := rfl
@[simp] theorem outWrite_lastLowTicks (l : Level) (s : State) : (outWrite l s).lastLowTicks = s.lastLowTicks := rfl
@[simp] theorem outWrite_fixedLowTicks (l : Level) (s : State) : (outWrite l s).fixedLowTicks = s.fixedLowTicks := rfl
@[simp] theorem outWrite_sumLow (l : Level) (s : State) : (outWrite l s).sumLow = s.sumLow := rfl
@[simp] theorem outWrite_minLow (l : Level) (s : State) : (outWrite l s).minLow = s.minLow := rfl
@[simp] theorem outWrite_maxLow (l : Level) (s : State) : (outWrite l s).maxLow = s.maxLow := rfl
@[simp] theorem outWrite_sampleCnt (l : Level) (s : State) : (outWrite l s).sampleCnt = s.sampleCnt := rfl
@[simp] theorem outWrite_calibDone (l : Level) (s : State) : (outWrite l s).calibDone = s.calibDone := rfl
@[simp] theorem outWrite_prevInputState (l : Level) (s : State) : (outWrite l s).prevInputState = s.prevInputState := rfl
@[simp] theorem outWrite_dutyPercent (l : Level) (s : State) : (outWrite l s).dutyPercent = s.dutyPercent := rfl
@[simp] theorem outWrite_dutyLatched (l : Level) (s : State) : (outWrite l s).dutyLatched = s.dutyLatched := rfl
@[simp] theorem outWrite_mode0 (l : Level) (s : State) : (outWrite l s).mode0 = s.mode0 := rfl
@[simp] theorem outWrite_mode100 (l : Level) (s : State) : (outWrite l s).mode100 = s.mode100 := rfl
@[simp] theorem outWrite_highTicks (l : Level) (s : State) : (outWrite l s).highTicks = s.highTicks := rfl
@[simp] theorem outWrite_outLevel (l : Level) (s : State) : (outWrite l s).outLevel = l := rfl
@[simp] theorem outWrite_events (l : Level) (s : State) : (outWrite l s).events = s.events := rfl
@[simp] theorem outWrite_cycles (l : Level) (s : State) : (outWrite l s).cycles = s.cycles := rfl

/-! ### closeOutput -/

@[simp] theorem closeOutput_params (s : State) : (closeOutput s).params = s.params := rfl
@[simp] theorem closeOutput_tick (s : State) : (closeOutput s).tick = s.tick := rfl
@[simp] theorem closeOutput_state (s : State) : (closeOutput s).state = s.state := rfl
@[simp] theorem closeOutput_pendingStartTick (s : State) : (closeOutput s).pendingStartTick = s.pendingStartTick := rfl
@[simp] theorem closeOutput_lowStartTick (s : State) : (closeOutput s).lowStartTick = s.lowStartTick := rfl
@[simp] theorem closeOutput_dutyStartTick (s : State) : (closeOutput s).dutyStartTick = s.dutyStartTick := rfl
@[simp] theorem closeOutput_lastLowTicks (s : State) : (closeOutput s).lastLowTicks = s.lastLowTicks := rfl
@[simp] theorem closeOutput_fixedLowTicks (s : State) : (closeOutput s).fixedLowTicks = s.fixedLowTicks := rfl
@[simp] theorem closeOutput_sumLow (s : State) : (closeOutput s).sumLow = s.sumLow := rfl
@[simp] theorem closeOutput_minLow (s : State) : (closeOutput s).minLow = s.minLow := rfl
@[simp] theorem closeOutput_maxLow (s : State) : (closeOutput s).maxLow = s.maxLow := rfl
@[simp] theorem closeOutput_sampleCnt (s : State) : (closeOutput s).sampleCnt = s.sampleCnt := rfl
@[simp] theorem closeOutput_calibDone (s : State) : (closeOutput s).calibDone = s.calibDone := rfl
@[simp] theorem closeOutput_prevInputState (s : State) : (closeOutput s).prevInputState = s.prevInputState := rfl
@[simp] theorem closeOutput_dutyPercent (s : State) : (closeOutput s).dutyPercent = s.dutyPercent := rfl
@[simp] theorem closeOutput_dutyLatched (s : State) : (closeOutput s).dutyLatched = s.dutyLatched := rfl
@[simp] theorem closeOutput_mode0 (s : State) : (closeOutput s).mode0 = false := rfl
@[simp] theorem closeOutput_mode100 (s : State) : (closeOutput s).mode100 = false := rfl
@[simp] theorem closeOutput_highTicks (s : State) : (closeOutput s).highTicks = s.highTicks := rfl
@[simp] theorem closeOutput_outLevel (s : State) : (closeOutput s).outLevel = .low := rfl
@[simp] theorem closeOutput_events (s : State) : (closeOutput s).events = s.events := rfl
@[simp] theorem closeOutput_cycles (s : State) : (closeOutput s).cycles = s.cycles := rfl

/-! ### latchDuty -/

@[simp] theorem latchDuty_params (s : State) : (latchDuty s).params = s.params := rfl
@[simp] theorem latchDuty_tick (s : State) : (latchDuty s).tick = s.tick := rfl
@[simp] theorem latchDuty_state (s : State) : (latchDuty s).state = s.state := rfl
@[simp] theorem latchDuty_pendingStartTick (s : State) : (latchDuty s).pendingStartTick = s.pendingStartTick := rfl
@[simp] theorem latchDuty_lowStartTick (s : State) : (latchDuty s).lowStartTick = s.lowStartTick := rfl
@[simp] theorem latchDuty_dutyStartTick (s : State) : (latchDuty s).dutyStartTick = s.dutyStartTick := rfl
@[simp] theorem latchDuty_lastLowTicks (s : State) : (latchDuty s).lastLowTicks = s.lastLowTicks := rfl
@[simp] theorem latchDuty_fixedLowTicks (s : State) : (latchDuty s).fixedLowTicks = s.fixedLowTicks := rfl
@[simp] theorem latchDuty_sumLow (s : State) : (latchDuty s).sumLow = s.sumLow := rfl
@[simp] theorem latchDuty_minLow (s : State) : (latchDuty s).minLow = s.minLow := rfl
@[simp] theorem latchDuty_maxLow (s : State) : (latchDuty s).maxLow = s.maxLow := rfl
@[simp] theorem latchDuty_sampleCnt (s : State) : (latchDuty s).sampleCnt = s.sampleCnt := rfl
@[simp] theorem latchDuty_calibDone (s : State) : (latchDuty s).calibDone = s.calibDone := rfl
@[simp] theorem latchDuty_prevInputState (s : State) : (latchDuty s).prevInputState = s.prevInputState := rfl
@[simp] theorem latchDuty_dutyPercent (s : State) : (latchDuty s).dutyPercent = s.dutyPercent := rfl
@[simp] theorem latchDuty_dutyLatched (s : State) : (latchDuty s).dutyLatched = s.dutyPercent := rfl
@[simp] theorem latchDuty_mode0 (s : State) : (latchDuty s).mode0 = mode0Of s.dutyPercent := rfl
@[simp] theorem latchDuty_mode100 (s : State) : (latchDuty s).mode100 = mode100Of s.params s.dutyPercent := rfl
@[simp] theorem latchDuty_highTicks (s : State) : (latchDuty s).highTicks = s.highTicks := rfl
@[simp] theorem latchDuty_outLevel (s : State) : (latchDuty s).outLevel = s.outLevel := rfl
@[simp] theorem latchDuty_events (s : State) : (latchDuty s).events = s.events := rfl
@[simp] theorem latchDuty_cycles (s : State) : (latchDuty s).cycles = s.cycles := rfl

/-! ### feedBatch -/

@[simp] theorem feedBatch_params (w : Word) (s : State) : (feedBatch w s).params = s.params := rfl
@[simp] theorem feedBatch_tick (w : Word) (s : State) : (feedBatch w s).tick = s.tick := rfl
@[simp] theorem feedBatch_state (w : Word) (s : State) : (feedBatch w s).state = s.state := rfl
@[simp] theorem feedBatch_pendingStartTick (w : Word) (s : State) : (feedBatch w s).pendingStartTick = s.pendingStartTick := rfl
@[simp] theorem feedBatch_lowStartTick (w : Word) (s : State) : (feedBatch w s).lowStartTick = s.lowStartTick := rfl
@[simp] theorem feedBatch_dutyStartTick (w : Word) (s : State) : (feedBatch w s).dutyStartTick = s.dutyStartTick := rfl
@[simp] theorem feedBatch_lastLowTicks (w : Word) (s : State) : (feedBatch w s).lastLowTicks = s.lastLowTicks := rfl
@[simp] theorem feedBatch_fixedLowTicks (w : Word) (s : State) : (feedBatch w s).fixedLowTicks = s.fixedLowTicks := rfl
@[simp] theorem feedBatch_sumLow (w : Word) (s : State) : (feedBatch w s).sumLow = s.sumLow + w.setWidth 32 := rfl
@[simp] theorem feedBatch_minLow (w : Word) (s : State) : (feedBatch w s).minLow = batchMin s w := rfl
@[simp] theorem feedBatch_maxLow (w : Word) (s : State) : (feedBatch w s).maxLow = batchMax s w := rfl
@[simp] theorem feedBatch_sampleCnt (w : Word) (s : State) : (feedBatch w s).sampleCnt = s.sampleCnt + 1#8 := rfl
@[simp] theorem feedBatch_calibDone (w : Word) (s : State) : (feedBatch w s).calibDone = s.calibDone := rfl
@[simp] theorem feedBatch_prevInputState (w : Word) (s : State) : (feedBatch w s).prevInputState = s.prevInputState := rfl
@[simp] theorem feedBatch_dutyPercent (w : Word) (s : State) : (feedBatch w s).dutyPercent = s.dutyPercent := rfl
@[simp] theorem feedBatch_dutyLatched (w : Word) (s : State) : (feedBatch w s).dutyLatched = s.dutyLatched := rfl
@[simp] theorem feedBatch_mode0 (w : Word) (s : State) : (feedBatch w s).mode0 = s.mode0 := rfl
@[simp] theorem feedBatch_mode100 (w : Word) (s : State) : (feedBatch w s).mode100 = s.mode100 := rfl
@[simp] theorem feedBatch_highTicks (w : Word) (s : State) : (feedBatch w s).highTicks = s.highTicks := rfl
@[simp] theorem feedBatch_outLevel (w : Word) (s : State) : (feedBatch w s).outLevel = s.outLevel := rfl
@[simp] theorem feedBatch_events (w : Word) (s : State) : (feedBatch w s).events = s.events := rfl
@[simp] theorem feedBatch_cycles (w : Word) (s : State) : (feedBatch w s).cycles = s.cycles := rfl

/-! ### setDuty -/

@[simp] theorem setDuty_params (arg : Word) (s : State) : (setDuty arg s).params = s.params := rfl
@[simp] theorem setDuty_tick (arg : Word) (s : State) : (setDuty arg s).tick = s.tick := rfl
@[simp] theorem setDuty_state (arg : Word) (s : State) : (setDuty arg s).state = s.state := rfl
@[simp] theorem setDuty_pendingStartTick (arg : Word) (s : State) : (setDuty arg s).pendingStartTick = s.pendingStartTick := rfl
@[simp] theorem setDuty_lowStartTick (arg : Word) (s : State) : (setDuty arg s).lowStartTick = s.lowStartTick := rfl
@[simp] theorem setDuty_dutyStartTick (arg : Word) (s : State) : (setDuty arg s).dutyStartTick = s.dutyStartTick := rfl
@[simp] theorem setDuty_lastLowTicks (arg : Word) (s : State) : (setDuty arg s).lastLowTicks = s.lastLowTicks := rfl
@[simp] theorem setDuty_fixedLowTicks (arg : Word) (s : State) : (setDuty arg s).fixedLowTicks = s.fixedLowTicks := rfl
@[simp] theorem setDuty_sumLow (arg : Word) (s : State) : (setDuty arg s).sumLow = s.sumLow := rfl
@[simp] theorem setDuty_minLow (arg : Word) (s : State) : (setDuty arg s).minLow = s.minLow := rfl
@[simp] theorem setDuty_maxLow (arg : Word) (s : State) : (setDuty arg s).maxLow = s.maxLow := rfl
@[simp] theorem setDuty_sampleCnt (arg : Word) (s : State) : (setDuty arg s).sampleCnt = s.sampleCnt := rfl
@[simp] theorem setDuty_calibDone (arg : Word) (s : State) : (setDuty arg s).calibDone = s.calibDone := rfl
@[simp] theorem setDuty_prevInputState (arg : Word) (s : State) : (setDuty arg s).prevInputState = s.prevInputState := rfl
@[simp] theorem setDuty_dutyPercent (arg : Word) (s : State) : (setDuty arg s).dutyPercent = clampDuty s.params arg := rfl
@[simp] theorem setDuty_dutyLatched (arg : Word) (s : State) : (setDuty arg s).dutyLatched = s.dutyLatched := rfl
@[simp] theorem setDuty_mode0 (arg : Word) (s : State) : (setDuty arg s).mode0 = s.mode0 := rfl
@[simp] theorem setDuty_mode100 (arg : Word) (s : State) : (setDuty arg s).mode100 = s.mode100 := rfl
@[simp] theorem setDuty_highTicks (arg : Word) (s : State) : (setDuty arg s).highTicks = s.highTicks := rfl
@[simp] theorem setDuty_outLevel (arg : Word) (s : State) : (setDuty arg s).outLevel = s.outLevel := rfl
@[simp] theorem setDuty_events (arg : Word) (s : State) : (setDuty arg s).events = s.events := rfl
@[simp] theorem setDuty_cycles (arg : Word) (s : State) : (setDuty arg s).cycles = s.cycles := rfl

end Sys2Proof.Machine
end

