-- ==== Sys2Proof/Laws/Ops.lean ====
section
/-! SUPPORT. One lemma per shared operation that says everything it can do, and the effect of an instruction as a plain
function of the state: later proofs cite these and do not unfold the operations. -/

namespace Sys2Proof.Machine

/-- The effect of an instruction when the parameter set is legal. -/
def effect (i : Instr) : State → State :=
  match i with
  | .nop => id
  | .tick lvl => ticked lvl
  | .edge lvl => edgeDetected lvl
  | .setDuty arg => setDuty arg
  | .resetCal => resetCalibration
  | .diag => id
  | .reserved6 => id
  | .hwreset => hardwareReset

theorem exec_eq_perform (i : Instr) (s : State) : exec i s = perform (effect i) s := by
  cases i <;> rfl

theorem perform_of_legal (f : State → State) (s : State) (h : s.params.legal = true) : perform f s = .next (f s) := by
  simp [perform, h]

theorem perform_of_not_legal (f : State → State) (s : State) (h : s.params.legal = false) :
    perform f s = .refused .illegalParameters := by
  simp [perform, h]

theorem perform_next_iff (f : State → State) (s t : State) :
    perform f s = .next t ↔ s.params.legal = true ∧ f s = t := by
  cases h : s.params.legal <;> simp [perform, h]

/-- Everything `exec` can answer. -/
theorem exec_next_iff (i : Instr) (s t : State) : exec i s = .next t ↔ s.params.legal = true ∧ effect i s = t := by
  rw [exec_eq_perform, perform_next_iff]

/-- What `legal` says (R13). -/
theorem legal_iff (p : Params) :
    p.legal = true ↔
      p.confirmTicks ≤ 65535 ∧ p.minLowTicks ≤ 65535 ∧ p.periodMinTicks ≤ p.periodMaxTicks ∧
      p.periodMaxTicks ≤ 65535 ∧ 3 ≤ p.batchN ∧ p.batchN ≤ 255 ∧ 1 ≤ p.dutyResolution ∧
      p.dutyResolution ≤ 32767 ∧ p.dutyDefault ≤ p.dutyResolution ∧ p.defaultLowTicks ≤ 65535 := by
  simp [Params.legal, and_assoc]

/-! ### The output procedures -/

/-- The level `SHAPE` leaves (R155). -/
def shapedLevel (t : Word) (s : State) : Level :=
  if s.mode0 then .low else if s.mode100 then .high else if onTimeReached s t then .low else s.outLevel

theorem shape_eq (t : Word) (s : State) : shape t s = { s with outLevel := shapedLevel t s } := by
  unfold shape shapedLevel
  split
  · rfl
  · split
    · rfl
    · split <;> rfl

/-- The level `CONFIRM_OUTPUT` leaves (R154). -/
def confirmedLevel (duty : Word) : Level := if mode0Of duty then .low else .high

/-- The on-time `CONFIRM_OUTPUT` leaves (R153; D18). -/
def confirmedTicks (s : State) : Word :=
  if mode0Of s.dutyPercent then s.highTicks
  else if mode100Of s.params s.dutyPercent then s.highTicks
  else onTime s.params (widthEstimate s) s.dutyPercent

theorem confirmOutput_eq (s : State) :
    confirmOutput s =
      { s with
        dutyLatched := s.dutyPercent
        mode0 := mode0Of s.dutyPercent
        mode100 := mode100Of s.params s.dutyPercent
        highTicks := confirmedTicks s
        outLevel := confirmedLevel s.dutyPercent } := by
  cases h0 : mode0Of s.dutyPercent <;> cases h100 : mode100Of s.params s.dutyPercent <;>
    simp [confirmOutput, driveConfirmed, confirmedTicks, confirmedLevel, latchDuty, outWrite, widthEstimate, h0, h100]

/-! ### The calibration -/

/-- `CALIBRATE` on a width outside the band (R142). -/
theorem calibrate_of_not_inBand (w : Word) (s : State) (h : inBand s.params w = false) :
    calibrate w s = { s with lastLowTicks := w } := by
  simp [calibrate, h]

/-- `CALIBRATE` on a width in the band that does not complete the batch (R143). -/
theorem calibrate_feeds (w : Word) (s : State) (h : inBand s.params w = true)
    (hn : (s.sampleCnt + 1#8).toNat ≠ s.params.batchN) :
    calibrate w s =
      { s with
        lastLowTicks := w
        minLow := batchMin s w
        maxLow := batchMax s w
        sumLow := s.sumLow + w.setWidth 32
        sampleCnt := s.sampleCnt + 1#8 } := by
  simp only [calibrate, h, if_true, consumeBatch, feedBatch_sampleCnt, feedBatch_params, hn, if_false]
  rfl

/-- `CALIBRATE` on the width that completes the batch (R144). -/
theorem calibrate_consumes (w : Word) (s : State) (h : inBand s.params w = true)
    (hn : (s.sampleCnt + 1#8).toNat = s.params.batchN) :
    calibrate w s =
      { s with
        lastLowTicks := w
        fixedLowTicks := trimmedMean (feedBatch w s)
        calibDone := true
        sumLow := 0#32
        sampleCnt := 0#8
        minLow := infSentinel
        maxLow := 0#16 } := by
  simp only [calibrate, h, if_true, consumeBatch, feedBatch_sampleCnt, feedBatch_params, hn]
  rfl

/-- `CALIBRATE` writes the calibration registers only (R140). -/
theorem calibrate_frame (w : Word) (s : State) :
    calibrate w s =
      { s with
        lastLowTicks := (calibrate w s).lastLowTicks
        fixedLowTicks := (calibrate w s).fixedLowTicks
        sumLow := (calibrate w s).sumLow
        minLow := (calibrate w s).minLow
        maxLow := (calibrate w s).maxLow
        sampleCnt := (calibrate w s).sampleCnt
        calibDone := (calibrate w s).calibDone } := by
  cases h : inBand s.params w
  · rw [calibrate_of_not_inBand w s h]
  · by_cases hn : (s.sampleCnt + 1#8).toNat = s.params.batchN
    · rw [calibrate_consumes w s h hn]
    · rw [calibrate_feeds w s h hn]

/-- `CALIBRATE` reads no register of the output side, and none that it does not write but the parameters: it commutes with
updates of the others. -/
theorem calibrate_closeOutput (w : Word) (s : State) : calibrate w (closeOutput s) = closeOutput (calibrate w s) := by
  cases h : inBand s.params w
  · rw [calibrate_of_not_inBand w s h, calibrate_of_not_inBand w (closeOutput s) h]; rfl
  · by_cases hn : (s.sampleCnt + 1#8).toNat = s.params.batchN
    · rw [calibrate_consumes w s h hn, calibrate_consumes w (closeOutput s) h hn]; rfl
    · rw [calibrate_feeds w s h hn, calibrate_feeds w (closeOutput s) h hn]; rfl

/-! ### TICK, by state and level -/

theorem ticked_idle (lvl : Level) (s : State) (h : s.state = .idleHigh) :
    ticked lvl s = { s with tick := s.tick + 1#16, prevInputState := lvl } := by
  simp [ticked, onTick, h, advance]

theorem ticked_noise (s : State) (h : s.state = .lowPending) :
    ticked .high s = { s with tick := s.tick + 1#16, state := .idleHigh, prevInputState := .high } := by
  simp [ticked, onTick, tickPending, h, advance]

theorem ticked_waits (s : State) (h : s.state = .lowPending)
    (hc : (elapsed (s.tick + 1#16) s.pendingStartTick).toNat < s.params.confirmTicks) :
    ticked .low s = { s with tick := s.tick + 1#16, prevInputState := .low } := by
  have hr : confirmReached (advance s) (now (advance s)) = false :=
    decide_eq_false (Nat.not_le.mpr hc)
  simp [ticked, onTick, h, tickPending, hr]

theorem ticked_confirms (s : State) (h : s.state = .lowPending)
    (hc : s.params.confirmTicks ≤ (elapsed (s.tick + 1#16) s.pendingStartTick).toNat) :
    ticked .low s =
      { s with
        tick := s.tick + 1#16
        state := .lowActive
        lowStartTick := s.pendingStartTick
        dutyStartTick := s.tick + 1#16
        dutyLatched := s.dutyPercent
        mode0 := mode0Of s.dutyPercent
        mode100 := mode100Of s.params s.dutyPercent
        highTicks := confirmedTicks s
        outLevel := confirmedLevel s.dutyPercent
        prevInputState := .low } := by
  have hr : confirmReached (advance s) (now (advance s)) = true := decide_eq_true hc
  simp only [ticked, onTick, advance_state, h, tickPending, hr, if_true, confirm, confirmOutput_eq]
  rfl

theorem ticked_shapes (s : State) (h : s.state = .lowActive) :
    ticked .low s =
      { s with tick := s.tick + 1#16, outLevel := shapedLevel (s.tick + 1#16) s, prevInputState := .low } := by
  simp only [ticked, onTick, advance_state, h, tickActive, shape_eq]
  rfl

theorem ticked_closes (s : State) (h : s.state = .lowActive) :
    ticked .high s =
      if aboveFloor s.params (elapsed (s.tick + 1#16) s.lowStartTick) then
        { calibrate (elapsed (s.tick + 1#16) s.lowStartTick) (closeOutput (advance s)) with
          state := .idleHigh, prevInputState := .high }
      else { closeOutput (advance s) with state := .idleHigh, prevInputState := .high } := by
  cases ha : aboveFloor s.params (elapsed (s.tick + 1#16) s.lowStartTick) <;>
    simp [ticked, onTick, h, tickActive, close, measuredWidth, now, ha]

theorem edgeDetected_opens (s : State) (h : s.state = .idleHigh) :
    edgeDetected .low s = { s with pendingStartTick := s.tick, state := .lowPending } := by
  simp [edgeDetected, h, now]

theorem edgeDetected_ignored (lvl : Level) (s : State) (h : s.state ≠ .idleHigh ∨ lvl = .high) :
    edgeDetected lvl s = s := by
  cases hs : s.state <;> cases lvl <;> simp_all [edgeDetected]

/-! ### Inversion: one lemma per operation of the state machine -/

theorem state_cases (st : DetectionState) : st = .idleHigh ∨ st = .lowPending ∨ st = .lowActive := by
  cases st <;> simp

/-- Everything a `TICK` can do (R121 to R127). -/
theorem ticked_cases (lvl : Level) (s : State) :
    (s.state = .idleHigh ∧ ticked lvl s = { s with tick := s.tick + 1#16, prevInputState := lvl }) ∨
    (s.state = .lowPending ∧ lvl = .high ∧
      ticked lvl s = { s with tick := s.tick + 1#16, state := .idleHigh, prevInputState := .high }) ∨
    (s.state = .lowPending ∧ lvl = .low ∧
      (elapsed (s.tick + 1#16) s.pendingStartTick).toNat < s.params.confirmTicks ∧
      ticked lvl s = { s with tick := s.tick + 1#16, prevInputState := .low }) ∨
    (s.state = .lowPending ∧ lvl = .low ∧
      s.params.confirmTicks ≤ (elapsed (s.tick + 1#16) s.pendingStartTick).toNat ∧
      ticked lvl s =
        { s with
          tick := s.tick + 1#16
          state := .lowActive
          lowStartTick := s.pendingStartTick
          dutyStartTick := s.tick + 1#16
          dutyLatched := s.dutyPercent
          mode0 := mode0Of s.dutyPercent
          mode100 := mode100Of s.params s.dutyPercent
          highTicks := confirmedTicks s
          outLevel := confirmedLevel s.dutyPercent
          prevInputState := .low }) ∨
    (s.state = .lowActive ∧ lvl = .low ∧
      ticked lvl s =
        { s with tick := s.tick + 1#16, outLevel := shapedLevel (s.tick + 1#16) s, prevInputState := .low }) ∨
    (s.state = .lowActive ∧ lvl = .high ∧ aboveFloor s.params (elapsed (s.tick + 1#16) s.lowStartTick) = false ∧
      ticked lvl s = { closeOutput (advance s) with state := .idleHigh, prevInputState := .high }) ∨
    (s.state = .lowActive ∧ lvl = .high ∧ aboveFloor s.params (elapsed (s.tick + 1#16) s.lowStartTick) = true ∧
      ticked lvl s =
        { calibrate (elapsed (s.tick + 1#16) s.lowStartTick) (closeOutput (advance s)) with
          state := .idleHigh, prevInputState := .high }) := by
  rcases state_cases s.state with hs | hs | hs
  · exact .inl ⟨hs, ticked_idle lvl s hs⟩
  · cases lvl
    · by_cases hc : s.params.confirmTicks ≤ (elapsed (s.tick + 1#16) s.pendingStartTick).toNat
      · exact .inr (.inr (.inr (.inl ⟨hs, rfl, hc, ticked_confirms s hs hc⟩)))
      · exact .inr (.inr (.inl ⟨hs, rfl, Nat.not_le.mp hc, ticked_waits s hs (Nat.not_le.mp hc)⟩))
    · exact .inr (.inl ⟨hs, rfl, ticked_noise s hs⟩)
  · cases lvl
    · exact .inr (.inr (.inr (.inr (.inl ⟨hs, rfl, ticked_shapes s hs⟩))))
    · have hcl := ticked_closes s hs
      cases ha : aboveFloor s.params (elapsed (s.tick + 1#16) s.lowStartTick)
      · rw [ha] at hcl
        exact .inr (.inr (.inr (.inr (.inr (.inl ⟨hs, rfl, rfl, hcl⟩)))))
      · rw [ha] at hcl
        exact .inr (.inr (.inr (.inr (.inr (.inr ⟨hs, rfl, rfl, hcl⟩)))))

/-- Everything an `EDGE` can do (R120). -/
theorem edgeDetected_cases (lvl : Level) (s : State) :
    (s.state = .idleHigh ∧ lvl = .low ∧
      edgeDetected lvl s = { s with pendingStartTick := s.tick, state := .lowPending }) ∨
    ((s.state ≠ .idleHigh ∨ lvl = .high) ∧ edgeDetected lvl s = s) := by
  by_cases h : s.state ≠ .idleHigh ∨ lvl = .high
  · exact .inr ⟨h, edgeDetected_ignored lvl s h⟩
  · cases lvl
    · exact .inl ⟨by simpa using h, rfl, edgeDetected_opens s (by simpa using h)⟩
    · simp at h

/-- The window close leaves the parameters and the inputs alone. -/
theorem calibrate_inputs (w : Word) (s : State) :
    (calibrate w s).params = s.params ∧ (calibrate w s).events = s.events ∧ (calibrate w s).cycles = s.cycles := by
  rw [calibrate_frame]
  exact ⟨rfl, rfl, rfl⟩

end Sys2Proof.Machine
end

