-- ==== Sys2Proof/Laws/PerInstr.lean ====
section
/-! SUPPORT. The per-instruction family `CanonicalWord`: the encoder gives every instruction its canonical event word, in which
every field the operation does not use is zero (spec/30_encoding.md R85). -/

namespace Sys2Proof.Laws.CanonicalWord

/-- The encoder's word is the canonical spelling (R85). -/
def Statement (i : Instr) : Prop := EventWord.canonical (encode i) = true

theorem nop : Statement .nop := rfl

theorem tick (lvl : Level) : Statement (.tick lvl) := by cases lvl <;> rfl

theorem edge (lvl : Level) : Statement (.edge lvl) := by cases lvl <;> rfl

theorem setDuty (arg : Word) : Statement (.setDuty arg) := by
  have h : EventWord.lvl (EventWord.make 3#3 Level.low.bits arg) = .low := EventWord.lvl_make _ _ _
  have w : decode (encode (.setDuty arg)) = .setDuty (EventWord.arg (encode (.setDuty arg))) := by
    simp [decode, encode]
  simp [Statement, EventWord.canonical, w, Instr.usesArg]
  exact .inr h

theorem resetCal : Statement .resetCal := rfl

theorem diag : Statement .diag := rfl

theorem reserved6 : Statement .reserved6 := rfl

theorem hwreset : Statement .hwreset := rfl

end Sys2Proof.Laws.CanonicalWord
end

