-- ==== Sys2Proof/Laws/Run.lean ====
section
/-! SUPPORT. What every instruction leaves to itself (the parameters and the inputs that wait), that the inputs play no part in
an instruction's effect, and the composition of event sequences (spec/20_memory.md R71). -/

namespace Sys2Proof.Machine

theorem ticked_inputs (lvl : Level) (s : State) :
    (ticked lvl s).params = s.params ∧ (ticked lvl s).events = s.events ∧ (ticked lvl s).cycles = s.cycles := by
  rcases ticked_cases lvl s with ⟨_, h⟩ | ⟨_, _, h⟩ | ⟨_, _, _, h⟩ | ⟨_, _, _, h⟩ | ⟨_, _, h⟩ | ⟨_, _, _, h⟩ | ⟨_, _, _, h⟩
  case inr.inr.inr.inr.inr.inr =>
    rw [h]
    exact calibrate_inputs (elapsed (s.tick + 1#16) s.lowStartTick) (closeOutput (advance s))
  all_goals rw [h]; exact ⟨rfl, rfl, rfl⟩

theorem edgeDetected_inputs (lvl : Level) (s : State) :
    (edgeDetected lvl s).params = s.params ∧ (edgeDetected lvl s).events = s.events ∧
      (edgeDetected lvl s).cycles = s.cycles := by
  rcases edgeDetected_cases lvl s with ⟨_, _, h⟩ | ⟨_, h⟩ <;> rw [h] <;> exact ⟨rfl, rfl, rfl⟩

/-- No instruction changes the parameters or the inputs that wait (R14, R47). -/
theorem effect_inputs (i : Instr) (s : State) :
    (effect i s).params = s.params ∧ (effect i s).events = s.events ∧ (effect i s).cycles = s.cycles := by
  cases i
  case tick lvl => exact ticked_inputs lvl s
  case edge lvl => exact edgeDetected_inputs lvl s
  all_goals exact ⟨rfl, rfl, rfl⟩

/-- The calibration reads no input that waits. -/
theorem calibrate_withInputs (w : Word) (s : State) (es : List EventWord) (cs : List BundleWord) :
    calibrate w { s with events := es, cycles := cs } = { calibrate w s with events := es, cycles := cs } := by
  cases h : inBand s.params w
  · rw [calibrate_of_not_inBand w s h, calibrate_of_not_inBand w _ (by exact h)]
  · by_cases hn : (s.sampleCnt + 1#8).toNat = s.params.batchN
    · rw [calibrate_consumes w s h hn, calibrate_consumes w _ (by exact h) (by exact hn)]; rfl
    · rw [calibrate_feeds w s h hn, calibrate_feeds w _ (by exact h) (by exact hn)]; rfl

theorem ticked_withInputs (lvl : Level) (s : State) (es : List EventWord) (cs : List BundleWord) :
    ticked lvl { s with events := es, cycles := cs } = { ticked lvl s with events := es, cycles := cs } := by
  rcases state_cases s.state with hs | hs | hs
  · rw [ticked_idle lvl s hs, ticked_idle lvl _ (by exact hs)]
  · cases lvl
    · by_cases hc : s.params.confirmTicks ≤ (elapsed (s.tick + 1#16) s.pendingStartTick).toNat
      · rw [ticked_confirms s hs hc, ticked_confirms _ (by exact hs) (by exact hc)]; rfl
      · rw [ticked_waits s hs (Nat.not_le.mp hc), ticked_waits _ (by exact hs) (by exact Nat.not_le.mp hc)]
    · rw [ticked_noise s hs, ticked_noise _ (by exact hs)]
  · cases lvl
    · rw [ticked_shapes s hs, ticked_shapes _ (by exact hs)]; rfl
    · rw [ticked_closes s hs, ticked_closes _ (by exact hs)]
      cases ha : aboveFloor s.params (elapsed (s.tick + 1#16) s.lowStartTick)
      · simp only [Bool.false_eq_true, if_false]; rfl
      · have hc := calibrate_withInputs (elapsed (s.tick + 1#16) s.lowStartTick) (closeOutput (advance s)) es cs
        have he : closeOutput (advance { s with events := es, cycles := cs }) =
            { closeOutput (advance s) with events := es, cycles := cs } := rfl
        simp only [if_true, he, hc]

theorem edgeDetected_withInputs (lvl : Level) (s : State) (es : List EventWord) (cs : List BundleWord) :
    edgeDetected lvl { s with events := es, cycles := cs } = { edgeDetected lvl s with events := es, cycles := cs } := by
  by_cases h : s.state ≠ .idleHigh ∨ lvl = .high
  · rw [edgeDetected_ignored lvl s h, edgeDetected_ignored lvl _ (by exact h)]
  · cases lvl
    · rw [edgeDetected_opens s (by simpa using h), edgeDetected_opens _ (by simpa using h)]
    · simp at h

/-- The inputs that wait play no part in an instruction's effect. -/
theorem effect_withInputs (i : Instr) (s : State) (es : List EventWord) (cs : List BundleWord) :
    effect i { s with events := es, cycles := cs } = { effect i s with events := es, cycles := cs } := by
  cases i
  case tick lvl => exact ticked_withInputs lvl s es cs
  case edge lvl => exact edgeDetected_withInputs lvl s es cs
  all_goals rfl

/-- A sequence of events with legal parameters is the composition of the effects (R71). -/
theorem run_eq_foldl (is : List Instr) (s : State) (h : s.params.legal = true) :
    run is s = .next (is.foldl (fun t i => effect i t) s) := by
  induction is generalizing s with
  | nil => rfl
  | cons i rest ih =>
    rw [run, exec_eq_perform, perform_of_legal _ _ h]
    exact ih (effect i s) (by rw [(effect_inputs i s).1]; exact h)

theorem run_cons_next_iff (i : Instr) (is : List Instr) (s t : State) :
    run (i :: is) s = .next t ↔ s.params.legal = true ∧ run is (effect i s) = .next t := by
  rw [run, exec_eq_perform]
  cases h : s.params.legal
  · simp [perform_of_not_legal _ _ h]
  · simp [perform_of_legal _ _ h]

/-- Two event sequences one after the other (R71). -/
theorem run_append (xs ys : List Instr) (s t : State) (h : run xs s = .next t) : run (xs ++ ys) s = run ys t := by
  induction xs generalizing s with
  | nil => cases h; rfl
  | cons i rest ih =>
    obtain ⟨hl, hr⟩ := (run_cons_next_iff i rest s t).mp h
    rw [List.cons_append, run, exec_eq_perform, perform_of_legal _ _ hl]
    exact ih (effect i s) hr

/-- One more event at the end of a sequence. -/
theorem run_snoc (is : List Instr) (i : Instr) (s t : State) (h : run is s = .next t) (hl : t.params.legal = true) :
    run (is ++ [i]) s = .next (effect i t) := by
  rw [run_append is [i] s t h, run, exec_eq_perform, perform_of_legal _ _ hl]
  rfl

/-- A sequence of events keeps the parameters. -/
theorem run_params (is : List Instr) (s t : State) (h : run is s = .next t) : t.params = s.params := by
  induction is generalizing s with
  | nil => cases h; rfl
  | cons i rest ih =>
    obtain ⟨-, hr⟩ := (run_cons_next_iff i rest s t).mp h
    rw [ih (effect i s) hr, (effect_inputs i s).1]

/-- One more of the `TICKS`. -/
theorem ticks_succ (n : Nat) (l : Level) : ticks (n + 1) l = ticks n l ++ [.tick l] := by
  simp [ticks, List.replicate_succ']

/-- The host's run, one step at a time. -/
theorem hostRun_next (M : Host.Core) (k : Nat) (s t : M.State) (h : M.step s = .next t) :
    M.run (k + 1) s = M.run k t := by
  simp only [Host.Core.run, h]

theorem hostRun_refused (M : Host.Core) (k : Nat) (s : M.State) (r : M.Refusal) (h : M.step s = .refused r) :
    M.run (k + 1) s = .refused r := by
  simp only [Host.Core.run, h]

theorem core_run_next (k : Nat) (s t : State) (h : step s = .next t) :
    Sys2Proof.core.run (k + 1) s = Sys2Proof.core.run k t :=
  hostRun_next Sys2Proof.core k s t h

theorem core_run_refused (k : Nat) (s : State) (r : Refusal) (h : step s = .refused r) :
    Sys2Proof.core.run (k + 1) s = .refused r :=
  hostRun_refused Sys2Proof.core k s r h

/-- Everything a step can do: perform the next event, take in the next clock cycle, or idle. -/
theorem step_next_cases (s t : State) (h : step s = .next t) :
    s.params.legal = true ∧
    ((∃ w rest, s.events = w :: rest ∧ t = { effect (decode w) s with events := rest }) ∨
     (∃ b more, s.events = [] ∧ s.cycles = b :: more ∧ t = presentCycle b more s) ∨
     (s.events = [] ∧ s.cycles = [] ∧ t = s)) := by
  unfold step at h
  split at h
  · next w rest he =>
    obtain ⟨hl, ht⟩ := (exec_next_iff _ _ _).mp h
    refine ⟨hl, .inl ⟨w, rest, he, ?_⟩⟩
    have hw := effect_withInputs (decode w) s rest s.cycles
    have hc := (effect_inputs (decode w) s).2.2
    rw [← ht]
    exact hw.trans (by rw [← hc])
  · next he =>
    split at h
    · next b more hc =>
      obtain ⟨hl, ht⟩ := (perform_next_iff _ _ _).mp h
      exact ⟨hl, .inr (.inl ⟨b, more, he, hc, ht.symm⟩)⟩
    · next hc =>
      obtain ⟨hl, ht⟩ := (perform_next_iff _ _ _).mp h
      exact ⟨hl, .inr (.inr ⟨he, hc, ht.symm⟩)⟩

end Sys2Proof.Machine
end

