-- ==== Sys2Proof/Tests/Slice0.lean ====
section
/-! SUPPORT. The model's own tests. Every expected value is taken from spec/ (the vector or rule named in the comment), none
from the model. The witnesses at the end show states and operands that meet the hypotheses of the obligations. -/

namespace Sys2Proof.Tests

open Sys2Proof.Machine

/-! ### Helpers -/

/-- The state an outcome holds, if it is a next state. -/
def after (o : Host.Outcome State Fault Refusal) : Option State :=
  match o with
  | .next t => some t
  | .fault _ => none
  | .refused _ => none

/-- The state a list of events leaves. -/
def runs (is : List Instr) (s : State) : Option State := after (run is s)

/-- The reset state at a given tick. -/
def idleAt (t : Word) : State := { State.reset with tick := t }

/-- A pending window opened at tick 100 (R120's worked case). -/
def pending : State := { State.reset with tick := 100#16, state := .lowPending, pendingStartTick := 100#16 }

/-- The confirmed window of the source's scenario E9, right after its confirmation. -/
def active : State :=
  { State.reset with
    tick := 101#16, state := .lowActive, pendingStartTick := 100#16, lowStartTick := 100#16, dutyStartTick := 101#16,
    dutyLatched := 50#16, highTicks := 25#16, outLevel := .high }

/-- The same window at tick 149, after its on-time: the next high sample closes it with width 50 (E9). -/
def closing : State := { active with tick := 149#16, outLevel := .low }

/-- The same close with nine samples of 50 in the batch (E10). -/
def closingFull : State :=
  { closing with sumLow := 450#32, minLow := 50#16, maxLow := 50#16, sampleCnt := 9#8, lastLowTicks := 50#16 }

/-- The reset state of another parameter set. -/
def resetWith (f : Params → Params) : State := State.resetOf (f Params.reference)

/-- A parameter set that breaks R13. -/
def badBatch : Params := { Params.reference with batchN := 2 }

/-! ### Decoding: words written out from R82 to R85 -/

theorem test_decode_nop : decode 0b00000000000000000000#20 = .nop := by decide

theorem test_decode_tick : decode 0b00110000000000000000#20 = .tick .high := by decide

theorem test_decode_edge : decode 0b01000000000000000000#20 = .edge .low := by decide

/-- `SET_DUTY 30` is `0x6001E` (V44-1). -/
theorem test_decode_setDuty : decode 0b01100000000000011110#20 = .setDuty 30#16 := by decide

theorem test_decode_resetCal : decode 0b10000000000000000000#20 = .resetCal := by decide

theorem test_decode_diag : decode 0b10100000000000000000#20 = .diag := by decide

theorem test_decode_reserved6 : decode 0b11000000000000000000#20 = .reserved6 := by decide

theorem test_decode_hwreset : decode 0b11100000000000000000#20 = .hwreset := by decide

/-- Unused fields are ignored (R85): `lvl` and `arg` of `DIAG`, `arg` of `TICK`, `lvl` of `SET_DUTY`. -/
theorem test_decode_unused_fields :
    decode 0b10110000000000000101#20 = .diag ∧ decode 0b00101111000011110000#20 = .tick .low ∧
    decode 0b01110000000000000001#20 = .setDuty 1#16 := by decide

/-- The table decoder: `0x6001E`, and a number of more than 20 bits is rejected by name. -/
theorem test_decode_number :
    decodeTableWord 24 0x6001E = some (.setDuty 30#16) ∧ decodeTableWord 24 0x100000 = none := by decide

/-- The bundles of the table of R95 and of the vectors V41-9 and V70-2. -/
theorem test_bundle_words :
    (Bundle.ofWord 0x000002#23).expand = [.tick .low] ∧ (Bundle.ofWord 0x000003#23).expand = [.tick .high] ∧
    (Bundle.ofWord 0x000006#23).expand = [.edge .low, .tick .low] ∧ (Bundle.ofWord 0x7FFFFF#23).expand = [.hwreset] := by
  decide

/-! ### The checks of WellFormed, each on a term it refuses -/

theorem test_reference_legal : Params.reference.legal = true := by decide

theorem test_refuses_confirm : Params.legal { Params.reference with confirmTicks := 65536 } = false := by decide

theorem test_refuses_floor : Params.legal { Params.reference with minLowTicks := 65536 } = false := by decide

theorem test_refuses_band_order : Params.legal { Params.reference with periodMinTicks := 81 } = false := by decide

theorem test_refuses_band_top : Params.legal { Params.reference with periodMaxTicks := 65536 } = false := by decide

theorem test_refuses_batch_small : Params.legal { Params.reference with batchN := 2 } = false := by decide

theorem test_refuses_batch_large : Params.legal { Params.reference with batchN := 256 } = false := by decide

theorem test_refuses_resolution_zero :
    Params.legal { Params.reference with dutyResolution := 0, dutyDefault := 0 } = false := by decide

theorem test_refuses_resolution_large : Params.legal { Params.reference with dutyResolution := 32768 } = false := by decide

theorem test_refuses_default_duty : Params.legal { Params.reference with dutyDefault := 101 } = false := by decide

theorem test_refuses_default_width : Params.legal { Params.reference with defaultLowTicks := 65536 } = false := by decide

theorem test_refuses_reserved : Instr.wellFormed .reserved6 = false := by decide

/-- A program must begin with `HWRESET` (U2) and hold no reserved code (U1). -/
theorem test_refuses_programs :
    programWellFormed [.tick .low] = false ∧ programWellFormed [.hwreset, .reserved6] = false ∧
    programWellFormed [.hwreset, .tick .low] = true := by decide

/-- A word with a bit set in an unused field is not the canonical spelling (R85). -/
theorem test_refuses_noncanonical :
    EventWord.canonical 0b00000000000000000001#20 = false ∧ EventWord.canonical 0b10010000000000000000#20 = false ∧
    EventWord.canonical 0b00110000000000000000#20 = true := by decide

/-! ### One step of each instruction -/

/-- V44-15. -/
theorem test_nop : after (exec .nop active) = some active := by decide

/-- V44-16, the hardware's side. -/
theorem test_reserved6 : after (exec .reserved6 active) = some active := by decide

/-- V40-2: the counter wraps silently. -/
theorem test_tick_wraps :
    after (exec (.tick .high) (idleAt 65535#16)) = some { idleAt 0#16 with prevInputState := .high } := by decide

/-- E9: confirmed at tick 101 with an on-time of 25. -/
theorem test_tick_confirms : after (exec (.tick .low) pending) = some active := by decide

/-- V41-1. -/
theorem test_edge_opens :
    after (exec (.edge .low) (idleAt 7#16)) =
      some { idleAt 7#16 with state := .lowPending, pendingStartTick := 7#16 } := by decide

/-- V41-2 and V41-6. -/
theorem test_edge_ignored :
    after (exec (.edge .high) (idleAt 7#16)) = some (idleAt 7#16) ∧ after (exec (.edge .low) active) = some active := by
  decide

/-- V44-4 and V44-6. -/
theorem test_setDuty_high :
    after (exec (.setDuty 101#16) active) = some { active with dutyPercent := 100#16 } ∧
    after (exec (.setDuty 0x7FFF#16) active) = some { active with dutyPercent := 100#16 } := by decide

/-- V44-5 and V44-7. -/
theorem test_setDuty_low :
    after (exec (.setDuty 0xFFFF#16) active) = some { active with dutyPercent := 0#16 } ∧
    after (exec (.setDuty 0x8000#16) active) = some { active with dutyPercent := 0#16 } := by decide

/-- V44-8, and the hazard of V70-3: the output and the counter stay, `min_low` becomes 0. -/
theorem test_resetCal :
    (after (exec .resetCal active)).map (fun t => (t.state, t.outLevel, t.tick, t.minLow, t.dutyStartTick)) =
      some (.idleHigh, .high, 101#16, 0#16, 0#16) := by decide

/-- V44-10 and V44-12. -/
theorem test_diag :
    returned .diag State.reset = some { valid := false, ticks := 0#16, freq := 0#16 } ∧
    returned .diag { State.reset with calibDone := true, fixedLowTicks := 60#16 } =
      some { valid := true, ticks := 60#16, freq := 83#16 } := by decide

/-- `DIAG` writes nothing. -/
theorem test_diag_writes_nothing : after (exec .diag active) = some active := by decide

/-- V70-1. -/
theorem test_hwreset : after (exec .hwreset closingFull) = some State.reset := by decide

/-- The tenth sample completes the batch in the same operation (E10). -/
theorem test_close_completes :
    (after (exec (.tick .high) closingFull)).map
        (fun t => (t.fixedLowTicks, t.calibDone, t.sumLow, t.sampleCnt, t.minLow, t.maxLow)) =
      some (50#16, true, 0#32, 0#8, 65535#16, 0#16) := by decide

/-- V40-4, V40-6, V40-8. -/
theorem test_elapsed :
    elapsed 5#16 65530#16 = 11#16 ∧ elapsed 0#16 65535#16 = 1#16 ∧ elapsed 0#16 1#16 = 65535#16 := by decide

/-- V43-4, V43-5, V43-7. -/
theorem test_onTime :
    onTime Params.reference 55#16 30#16 = 17#16 ∧ onTime Params.reference 40#16 1#16 = 1#16 ∧
    onTime Params.reference 65535#16 99#16 = 64880#16 := by decide

/-- The assembler of R95 on `SET_DUTY -1` (`0x6FFFF`) and on a line of two events (V41-9). -/
theorem test_assembler :
    assembleEvent "SET_DUTY -1".toList = some (.setDuty 0xFFFF#16) ∧
    (assembleLine "EDGE 0 | TICK 0".toList).map Bundle.toWord = some 0x000006#23 := by decide

/-! ### Witnesses for the obligations: encodings, steps, parameters -/

/-- ReencodingClearsUnusedFields and DecodeFollowsMatchAndMask have no hypothesis. EventAsOwnBundle: an event that is not `NOP`.
TraceTextAssembles: events that have a text, at the ends of the operand's range. -/
theorem test_witness_EventAsOwnBundle_TraceTextAssembles :
    (Instr.hwreset ≠ .nop) ∧ eventText (.setDuty 0x8000#16) = some "SET_DUTY -32768".toList ∧
    eventText (.setDuty 0x7FFF#16) = some "SET_DUTY 32767".toList ∧ eventText .reserved6 = none := by decide

/-- CycleExpansionOrder: a bundle under reset, one with all three strobes and none of the reset. -/
theorem test_witness_CycleExpansionOrder :
    (Bundle.ofWord 0x7FFFFF#23).rst = true ∧ (Bundle.ofWord 0x3FFFFF#23).rst = false ∧
    (Bundle.ofWord 0x3FFFFF#23).expand = [.reserved6, .edge .high, .tick .high] := by decide

/-- StepPerformsTheDecodedEvent, one state for each clause: an event waits, a cycle waits, nothing waits. -/
theorem test_witness_StepPerformsTheDecodedEvent :
    (({ State.reset with events := [0x30000#20] } : State).events = 0x30000#20 :: []) ∧
    (({ State.reset with cycles := [0x000006#23] } : State).cycles = 0x000006#23 :: [] ∧
      ({ State.reset with cycles := [0x000006#23] } : State).events = []) ∧
    (State.reset.events = [] ∧ State.reset.cycles = [] ∧ State.reset.params.legal = true) := by decide

/-- PresentedWordIsPerformedNext: the table decoder reads the first and the last word. -/
theorem test_witness_PresentedWordIsPerformedNext :
    decodeTableWord 24 0 = some .nop ∧ decodeTableWord 24 0xFFFFF = some .hwreset := by decide

/-- StepsRefineTheClockCycle. -/
theorem test_witness_StepsRefineTheClockCycle :
    ({ State.reset with cycles := [0x3FFFFF#23] } : State).events = [] ∧
    ({ State.reset with cycles := [0x3FFFFF#23] } : State).cycles = 0x3FFFFF#23 :: [] := by decide

/-- IdleCycleIsOneNop, NopChangesNothing: a bundle with no strobe, whatever its other fields. -/
theorem test_witness_IdleCycleIsOneNop_NopChangesNothing :
    (Bundle.ofWord 0x1FFFF9#23).rst = false ∧ (Bundle.ofWord 0x1FFFF9#23).cv = false ∧
    (Bundle.ofWord 0x1FFFF9#23).es = false ∧ (Bundle.ofWord 0x1FFFF9#23).ts = false := by decide

/-- PortsShowTheEarlierCycles: a run of two cycles ends in a next state. -/
theorem test_witness_PortsShowTheEarlierCycles :
    (after (runCycles [Bundle.ofWord 0x000006#23, Bundle.ofWord 0#23] State.reset)).isSome = true := by decide

/-- EveryOperationCompletes, NopChangesNothing, ReservedCodeActsAsNop, SetDutyClampsTheRequest, ResetCalZeroesTheWindowManager,
HardwareResetGivesTheResetState, EdgeOpensAPendingWindow, DiagReturnsTheReference: a legal parameter set, in each detection
state. -/
theorem test_witness_legal_states :
    State.reset.params.legal = true ∧ pending.params.legal = true ∧ active.params.legal = true ∧
    State.reset.state = .idleHigh ∧ pending.state = .lowPending ∧ active.state = .lowActive := by decide

/-- ReservedCodeActsAsNop: a word with that code and every other bit set. -/
theorem test_witness_ReservedCodeActsAsNop : EventWord.op 0xDFFFF#20 = 6#3 := by decide

/-- HardwareResetGivesTheResetState: a bundle under reset. -/
theorem test_witness_HardwareResetGivesTheResetState : (Bundle.ofWord 0x400000#23).rst = true := by decide

/-- DiagReturnsTheReference, a state for each clause, with the reference at 0, 1 and 65535; the results are R174's. -/
theorem test_witness_DiagReturnsTheReference :
    State.reset.calibDone = false ∧
    (diagResult { State.reset with calibDone := true, fixedLowTicks := 0#16 }).freq = 0#16 ∧
    (diagResult { State.reset with calibDone := true, fixedLowTicks := 1#16 }).freq = 5000#16 ∧
    (diagResult { State.reset with calibDone := true, fixedLowTicks := 65535#16 }).freq = 0#16 := by decide

/-- IllegalParametersAreRefused: the batch size 2 of U11. -/
theorem test_witness_IllegalParametersAreRefused :
    ¬(3 ≤ badBatch.batchN) ∧ after (exec .nop (State.resetOf badBatch)) = none ∧
    after (step (State.resetOf badBatch)) = none := by decide

/-- StepsKeepTheParameters, StepsKeepTheBatchInvariant, StepsKeepTheDutyInvariant, StepsKeepTheOutputFraming,
StepsKeepThePhaseLock: a state in the middle of a window that meets all the invariants, and its step is a next state. -/
theorem test_witness_invariants :
    active.params.legal = true ∧ active.BatchInv ∧ active.DutyInv ∧ active.FramingInv ∧ active.PhaseInv ∧
    (after (step (active.withFetchWord 24 0x20000))).isSome = true :=
  ⟨by decide, by decide, by decide, by decide, by decide, by decide⟩

/-- The same of a pending window and of a batch of nine samples. -/
theorem test_witness_invariants_pending :
    pending.BatchInv ∧ pending.DutyInv ∧ pending.FramingInv ∧ pending.PhaseInv ∧ closingFull.BatchInv ∧
    closingFull.DutyInv ∧ closingFull.FramingInv ∧ closingFull.PhaseInv ∧
    (after (step (pending.withFetchWord 24 0x20000))).isSome = true ∧
    (after (step (closingFull.withFetchWord 24 0x30000))).isSome = true :=
  ⟨by decide, by decide, by decide, by decide, by decide, by decide, by decide, by decide, by decide, by decide⟩

/-- ResetMeetsTheInvariants: a legal parameter set at the ends of its ranges. -/
theorem test_witness_ResetMeetsTheInvariants :
    (resetWith (fun p => { p with
      confirmTicks := 0, minLowTicks := 65535, periodMinTicks := 0, periodMaxTicks := 65535, batchN := 255,
      dutyResolution := 1, dutyDefault := 1, defaultLowTicks := 0 })).params.legal = true := by decide

/-- ReachableStatesMeetTheInvariants: the reset state with one event to come is reachable, and so is the state after it. -/
theorem test_witness_ReachableStatesMeetTheInvariants :
    Reachable Params.reference { State.reset with state := .lowPending } :=
  .step { State.reset with events := [0x40000#20] } _ (.reset [0x40000#20] []) rfl

/-- RegisterAccessTable: a `TICK` from two states that agree on what it may read. -/
theorem test_witness_RegisterAccessTable :
    (∀ r, mayRead (.tick .low) r = true →
      ({ pending with outLevel := .high, prevInputState := .high } : State).read r = pending.read r) ∧
    (after (exec (.tick .low) pending)).isSome = true ∧ mayWrite (.tick .low) .dutyPercent = false ∧
    (after (exec (.tick .low) { pending with outLevel := .high, prevInputState := .high })).isSome = true := by
  refine ⟨fun r h => ?_, by decide, by decide, by decide⟩
  cases r <;> first | rfl | exact absurd h (by decide)

/-- PreviousInputInfluencesNothing, OnlyConfirmedWindowsTouchOutputAndCalibration, TransitionTableIsComplete,
OutputStaysLowOutsideWindows: the premises hold of the source's confirmation. -/
theorem test_witness_confirmation :
    (runs [.edge .low, .tick .low] (idleAt 100#16)) = some active ∧ after (exec (.tick .low) pending) = some active ∧
    (pending.state ≠ .lowActive ∧ pending.outLevel = .low) ∧ (Instr.tick .low ≠ .resetCal) := by decide

/-! ### Witnesses: the Tick Clock, the window, the output -/

/-- ElapsedWrapsUnsigned, its three cases at their boundaries: equal stamps, one apart each way. -/
theorem test_witness_ElapsedWrapsUnsigned :
    elapsed 100#16 100#16 = 0#16 ∧ elapsed 65535#16 0#16 = 65535#16 ∧ elapsed 0#16 65535#16 = 1#16 ∧
    elapsed 1#16 0#16 = 1#16 := by decide

/-- ElapsedCountsTicksModuloTheRange: a sequence without `HWRESET` that ends in a next state. -/
theorem test_witness_ElapsedCountsTicksModuloTheRange :
    .hwreset ∉ [Instr.tick .high, .nop, .tick .low] ∧ tickCount [.tick .high, .nop, .tick .low] = 2 ∧
    (runs [.tick .high, .nop, .tick .low] (idleAt 65535#16)).map (fun t => t.tick) = some 1#16 := by decide

/-- EdgeOpensAPendingWindow and TickInIdleOnlyCounts: `IDLE_HIGH`, and its contrary. -/
theorem test_witness_EdgeOpensAPendingWindow_TickInIdleOnlyCounts :
    (idleAt 7#16).state = .idleHigh ∧ (idleAt 7#16).params.legal = true ∧ pending.state ≠ .idleHigh := by decide

/-- HighSampleRejectsThePendingWindow, at a tick in which the threshold is reached too (R125). -/
theorem test_witness_HighSampleRejectsThePendingWindow :
    pending.params.legal = true ∧ pending.state = .lowPending ∧
    pending.params.confirmTicks ≤ (elapsed (pending.tick + 1#16) pending.pendingStartTick).toNat := by decide

/-- PendingWindowWaitsForTheThreshold: threshold 3, one tick after the edge (V41-10). -/
theorem test_witness_PendingWindowWaitsForTheThreshold :
    ∃ s : State, s.params.legal = true ∧ s.state = .lowPending ∧
      (elapsed (s.tick + 1#16) s.pendingStartTick).toNat + 2 = s.params.confirmTicks :=
  ⟨{ resetWith (fun p => { p with confirmTicks := 3 }) with state := .lowPending }, by decide⟩

/-- ThresholdConfirmsTheWindow: exactly at the threshold. -/
theorem test_witness_ThresholdConfirmsTheWindow :
    pending.params.legal = true ∧ pending.state = .lowPending ∧
    pending.params.confirmTicks = (elapsed (pending.tick + 1#16) pending.pendingStartTick).toNat := by decide

/-- ConfirmationSetsTheOutput, a state for each clause: the three estimates (V43-1, V43-13, V43-14) and the two forced modes
(V43-10, V43-11). -/
theorem test_witness_ConfirmationSetsTheOutput :
    (after (exec (.tick .low) pending)).map (fun t => (t.state, t.highTicks)) = some (.lowActive, 25#16) ∧
    (after (exec (.tick .low) { pending with lastLowTicks := 48#16 })).map (fun t => t.highTicks) = some 24#16 ∧
    (after (exec (.tick .low) { pending with lastLowTicks := 48#16, calibDone := true, fixedLowTicks := 60#16 })).map
      (fun t => t.highTicks) = some 30#16 ∧
    (after (exec (.tick .low) { pending with dutyPercent := 0#16 })).map
      (fun t => (t.state, t.mode0, t.mode100, t.outLevel)) = some (.lowActive, true, false, .low) ∧
    (after (exec (.tick .low) { pending with dutyPercent := 100#16 })).map
      (fun t => (t.state, t.mode0, t.mode100, t.outLevel)) = some (.lowActive, false, true, .high) := by decide

/-- OnTimeIsTheRoundedQuotient, OnTimeIsWithinOneOfTheQuotient: the duty at both ends of its range (V43-2, V43-3). -/
theorem test_witness_OnTimeIsTheRoundedQuotient_OnTimeIsWithinOneOfTheQuotient :
    Params.reference.legal = true ∧ 1 ≤ (1#16 : Word).toNat ∧ (99#16 : Word).toNat < Params.reference.dutyResolution ∧
    onTime Params.reference 50#16 1#16 = 1#16 ∧ onTime Params.reference 50#16 99#16 = 50#16 := by decide

/-- LowSampleShapesTheOutput, a state for each clause: before the end of the on-time, at its end (V43-12), both forced modes. -/
theorem test_witness_LowSampleShapesTheOutput :
    active.state = .lowActive ∧
    (after (exec (.tick .low) { active with tick := 124#16 })).map (fun t => t.outLevel) = some .high ∧
    (after (exec (.tick .low) { active with tick := 125#16 })).map (fun t => t.outLevel) = some .low ∧
    (after (exec (.tick .low) { active with mode0 := true, outLevel := .high })).map (fun t => t.outLevel) = some .low ∧
    (after (exec (.tick .low) { active with mode100 := true, outLevel := .low })).map (fun t => t.outLevel) = some .high := by
  decide

/-- CloseBelowTheFloorDiscards: width 4 (V42-1). -/
theorem test_witness_CloseBelowTheFloorDiscards :
    active.params.legal = true ∧ ({ active with tick := 103#16 } : State).state = .lowActive ∧
    (elapsed (103#16 + 1#16) active.lowStartTick).toNat + 1 = active.params.minLowTicks := by decide

/-- CloseOutOfBandKeepsTheBatch, both sides of the band and the floor: widths 5, 39 and 81 (V42-3, V42-4, V42-6). -/
theorem test_witness_CloseOutOfBandKeepsTheBatch :
    (after (exec (.tick .high) { closing with tick := 104#16 })).map (fun t => (t.lastLowTicks, t.sampleCnt)) =
      some (5#16, 0#8) ∧
    (after (exec (.tick .high) { closing with tick := 138#16 })).map (fun t => (t.lastLowTicks, t.sampleCnt)) =
      some (39#16, 0#8) ∧
    (after (exec (.tick .high) { closing with tick := 180#16 })).map (fun t => (t.lastLowTicks, t.sampleCnt)) =
      some (81#16, 0#8) := by decide

/-- CloseInBandFeedsTheBatch: the first sample, at both ends of the band (V42-5, V42-6), and one more sample. -/
theorem test_witness_CloseInBandFeedsTheBatch :
    closing.params.legal = true ∧ closing.BatchInv ∧ closing.state = .lowActive ∧
    (after (exec (.tick .high) { closing with tick := 139#16 })).map (fun t => (t.minLow, t.maxLow, t.sumLow, t.sampleCnt)) =
      some (40#16, 40#16, 40#32, 1#8) ∧
    (after (exec (.tick .high) { closing with tick := 179#16 })).map (fun t => (t.minLow, t.maxLow, t.sumLow, t.sampleCnt)) =
      some (80#16, 80#16, 80#32, 1#8) ∧
    (after (exec (.tick .high)
      { closing with tick := 147#16, sampleCnt := 1#8, sumLow := 52#32, minLow := 52#16, maxLow := 52#16 })).map
        (fun t => (t.minLow, t.maxLow, t.sumLow, t.sampleCnt)) = some (48#16, 52#16, 100#32, 2#8) :=
  ⟨by decide, by decide, by decide, by decide, by decide, by decide⟩

/-- CloseCompletingTheBatchCalibrates: the tenth sample of the source's scenario (E10). -/
theorem test_witness_CloseCompletingTheBatchCalibrates :
    closingFull.params.legal = true ∧ closingFull.BatchInv ∧ closingFull.state = .lowActive ∧
    (elapsed (closingFull.tick + 1#16) closingFull.lowStartTick) = 50#16 ∧
    closingFull.sampleCnt.toNat + 1 = closingFull.params.batchN := by decide

/-! ### Witnesses: sequences of events -/

/-- OnlyALowEdgeLeavesIdle: such a sequence, from `IDLE_HIGH` and after a `RESET_CAL` in a confirmed window (V70-3). -/
theorem test_witness_OnlyALowEdgeLeavesIdle :
    .edge .low ∉ [Instr.tick .low, .tick .high] ∧ .hwreset ∉ [Instr.tick .low, .tick .high] ∧
    (idleAt 7#16).state = .idleHigh ∧ (runs [.tick .low, .tick .high] (idleAt 7#16)).isSome = true ∧
    (runs [.resetCal, .tick .low, .tick .high] active).map (fun t => t.outLevel) = some .high := by decide

/-- LatchedDutyHoldsForTheWindow: a duty change in a confirmed window (V43-9). -/
theorem test_witness_LatchedDutyHoldsForTheWindow :
    .tick .high ∉ [Instr.setDuty 10#16, .tick .low] ∧ .resetCal ∉ [Instr.setDuty 10#16, .tick .low] ∧
    .hwreset ∉ [Instr.setDuty 10#16, .tick .low] ∧ active.state = .lowActive ∧
    (runs [.setDuty 10#16, .tick .low] active).map (fun t => (t.dutyPercent, t.dutyLatched)) = some (10#16, 50#16) := by
  decide

/-- OnTimeLastsHighTicks. -/
theorem test_witness_OnTimeLastsHighTicks :
    active.params.legal = true ∧ active.state = .lowActive ∧ active.mode0 = false ∧ active.mode100 = false ∧
    active.dutyStartTick = active.tick ∧ active.outLevel = .high ∧ 1 ≤ active.highTicks.toNat := by decide

/-- EdgeFixesThePhaseOfTheOutput: before the confirming tick and at it, for the thresholds 1 and 0 (V41-5, V41-12). -/
theorem test_witness_EdgeFixesThePhaseOfTheOutput :
    (idleAt 100#16).params.legal = true ∧ (idleAt 100#16).state = .idleHigh ∧
    0 < max Params.reference.confirmTicks 1 ∧ 1 = max Params.reference.confirmTicks 1 ∧
    (runs [.edge .low, .tick .low] (resetWith (fun p => { p with confirmTicks := 0 }))).map
      (fun t => (t.state, t.lowStartTick, t.dutyStartTick)) = some (.lowActive, 0#16, 1#16) := by decide

/-- WindowMeasuresItsWidth: the narrowest width (V42-2) and the widest below the noise floor (V42-1), the narrowest that is
recorded (V42-3), and one past the counter's range (R232). -/
theorem test_witness_WindowMeasuresItsWidth :
    State.reset.params.legal = true ∧ State.reset.state = .idleHigh ∧
    (∀ w ∈ [2, 4, 5, 65586], 2 ≤ w ∧ Params.reference.confirmTicks ≤ w - 1) ∧
    4 % 65536 < Params.reference.minLowTicks ∧ Params.reference.minLowTicks ≤ 5 % 65536 ∧
    Params.reference.minLowTicks ≤ 65586 % 65536 := by decide

/-- TrimmedMeanOfTheBatch: a batch with values at both ends of the band (those of V42-8), and a shorter list. -/
theorem test_witness_TrimmedMeanOfTheBatch :
    State.reset.params.legal = true ∧ State.reset.sampleCnt = 0#8 ∧ State.reset.sumLow = 0#32 ∧
    (∀ x ∈ (80#16 : Word) :: List.replicate 9 40#16,
      Params.reference.periodMinTicks ≤ x.toNat ∧ x.toNat ≤ Params.reference.periodMaxTicks) ∧
    ((80#16 : Word) :: List.replicate 9 40#16).length = Params.reference.batchN ∧
    ((80#16 : Word) :: List.replicate 8 40#16).length < Params.reference.batchN :=
  ⟨by decide, by decide, by decide, by simp [Params.reference], by decide, by decide⟩

end Sys2Proof.Tests
end

/-! The family of spec/10_state.md: which registers an instruction writes and reads (R42), and when the output and the
calibration may change (R44). -/

namespace Sys2Proof.Machine

/-! ### A register's contents determine the register -/

theorem setWidth_injective {n m : Nat} (hn : n ≤ m) {x y : BitVec n} (h : x.setWidth m = y.setWidth m) : x = y := by
  simpa [BitVec.setWidth_setWidth_of_le _ hn] using congrArg (BitVec.setWidth n) h

/-- A 16-bit register, from what `State.read` shows of it. -/
theorem word_eq_of_read {x y : Word} (h : x.setWidth 32 = y.setWidth 32) : x = y := setWidth_injective (by decide) h

/-- A flag, from what `State.read` shows of it. -/
theorem flag_eq_of_read {x y : Bool} (h : (BitVec.ofBool x).setWidth 32 = (BitVec.ofBool y).setWidth 32) : x = y :=
  BitVec.ofBool_eq_iff_eq.mp (setWidth_injective (by decide) h)

theorem DetectionState.code_injective {x y : DetectionState} (h : x.code = y.code) : x = y := by
  revert h
  cases x <;> cases y <;> decide

/-- The detection state, from what `State.read` shows of it. -/
theorem detectionState_eq_of_read {x y : DetectionState} (h : x.code.setWidth 32 = y.code.setWidth 32) : x = y :=
  DetectionState.code_injective (setWidth_injective (by decide) h)

/-- Two states with the same parameters that agree on what a `TICK` may read differ at most in the two registers it may not
read and in the inputs that wait. -/
theorem eq_of_tick_reads_agree {lvl : Level} {s s' : State} (hp : s'.params = s.params)
    (h : ∀ r, mayRead (.tick lvl) r = true → s'.read r = s.read r) :
    s' =
      { s with
        prevInputState := s'.prevInputState
        outLevel := s'.outLevel
        events := s'.events
        cycles := s'.cycles } := by
  have hsample : s'.sampleCnt = s.sampleCnt := setWidth_injective (by decide) (h .sampleCnt rfl)
  have hsum : s'.sumLow = s.sumLow := h .sumLow rfl
  obtain ⟨⟩ := s'
  simp only [State.mk.injEq, and_true, true_and]
  exact ⟨hp, word_eq_of_read (h .tick rfl), detectionState_eq_of_read (h .state rfl),
    word_eq_of_read (h .pendingStartTick rfl), word_eq_of_read (h .lowStartTick rfl),
    word_eq_of_read (h .dutyStartTick rfl), word_eq_of_read (h .lastLowTicks rfl),
    word_eq_of_read (h .fixedLowTicks rfl), hsum, word_eq_of_read (h .minLow rfl), word_eq_of_read (h .maxLow rfl),
    hsample, flag_eq_of_read (h .calibDone rfl), word_eq_of_read (h .dutyPercent rfl),
    word_eq_of_read (h .dutyLatched rfl), flag_eq_of_read (h .mode0 rfl), flag_eq_of_read (h .mode100 rfl),
    word_eq_of_read (h .highTicks rfl)⟩

/-! ### Reading a register after an update of another field -/

@[simp] theorem read_withInputs (s : State) (es : List EventWord) (cs : List BundleWord) (r : Reg) :
    ({ s with events := es, cycles := cs } : State).read r = s.read r := by
  cases r <;> rfl

theorem read_withOutLevel (s : State) (o : Level) {r : Reg} (h : r ≠ .outLevel) :
    ({ s with outLevel := o } : State).read r = s.read r := by
  cases r
  case outLevel => exact absurd rfl h
  all_goals rfl

theorem read_dutyResolution_of_params {s t : State} (h : t.params = s.params) :
    t.read .dutyResolution = s.read .dutyResolution := by
  simp [State.read, State.dutyResolution, h]

/-! ### What each instruction does not write (R42) -/

theorem calibrate_pendingStartTick (w : Word) (s : State) : (calibrate w s).pendingStartTick = s.pendingStartTick := by
  rw [calibrate_frame]

theorem calibrate_dutyPercent (w : Word) (s : State) : (calibrate w s).dutyPercent = s.dutyPercent := by
  rw [calibrate_frame]

/-- A `TICK` writes neither the edge's stamp (`EDGE` does) nor the duty (`SET_DUTY` does). -/
theorem ticked_frame (lvl : Level) (s : State) :
    (ticked lvl s).pendingStartTick = s.pendingStartTick ∧ (ticked lvl s).dutyPercent = s.dutyPercent := by
  rcases ticked_cases lvl s with ⟨_, h⟩ | ⟨_, _, h⟩ | ⟨_, _, _, h⟩ | ⟨_, _, _, h⟩ | ⟨_, _, h⟩ | ⟨_, _, _, h⟩ | ⟨_, _, _, h⟩
  case inr.inr.inr.inr.inr.inr =>
    rw [h]
    exact ⟨calibrate_pendingStartTick _ (closeOutput (advance s)), calibrate_dutyPercent _ (closeOutput (advance s))⟩
  all_goals rw [h]; exact ⟨rfl, rfl⟩

theorem mayWrite_tick_eq_false_iff (lvl : Level) (r : Reg) :
    mayWrite (.tick lvl) r = false ↔ r = .pendingStartTick ∨ r = .dutyPercent ∨ r = .dutyResolution := by
  cases r <;> simp [mayWrite]

theorem ticked_read_of_not_mayWrite (lvl : Level) (s : State) {r : Reg} (h : mayWrite (.tick lvl) r = false) :
    (ticked lvl s).read r = s.read r := by
  obtain ⟨hpending, hduty⟩ := ticked_frame lvl s
  rcases (mayWrite_tick_eq_false_iff lvl r).mp h with rfl | rfl | rfl
  · exact congrArg (BitVec.setWidth 32) hpending
  · exact congrArg (BitVec.setWidth 32) hduty
  · exact read_dutyResolution_of_params (ticked_inputs lvl s).1

theorem edgeDetected_read_of_not_mayWrite (lvl : Level) (s : State) {r : Reg} (h : mayWrite (.edge lvl) r = false) :
    (edgeDetected lvl s).read r = s.read r := by
  rcases edgeDetected_cases lvl s with ⟨_, _, he⟩ | ⟨_, he⟩ <;> rw [he]
  cases r <;> simp [mayWrite] at h <;> rfl

/-- The frame of every instruction: a register the table does not let it write keeps its contents (R42). -/
theorem effect_read_of_not_mayWrite (i : Instr) (s : State) {r : Reg} (h : mayWrite i r = false) :
    (effect i s).read r = s.read r := by
  cases i
  case nop | diag | reserved6 => rfl
  case tick lvl => exact ticked_read_of_not_mayWrite lvl s h
  case edge lvl => exact edgeDetected_read_of_not_mayWrite lvl s h
  case setDuty | resetCal | hwreset => cases r <;> simp [mayWrite] at h <;> rfl

/-! ### What a TICK does not read (R42) -/

theorem calibrate_withPrevInputState (w : Word) (s : State) (l : Level) :
    calibrate w { s with prevInputState := l } = { calibrate w s with prevInputState := l } := by
  cases h : inBand s.params w
  · rw [calibrate_of_not_inBand w s h, calibrate_of_not_inBand w _ (by exact h)]
  · by_cases hn : (s.sampleCnt + 1#8).toNat = s.params.batchN
    · rw [calibrate_consumes w s h hn, calibrate_consumes w _ (by exact h) (by exact hn)]; rfl
    · rw [calibrate_feeds w s h hn, calibrate_feeds w _ (by exact h) (by exact hn)]; rfl

/-- A `TICK` overwrites the recorded sample and does not read it (R36, R121). -/
theorem ticked_withPrevInputState (lvl : Level) (s : State) (l : Level) :
    ticked lvl { s with prevInputState := l } = ticked lvl s := by
  rcases state_cases s.state with hs | hs | hs
  · rw [ticked_idle lvl s hs, ticked_idle lvl _ (by exact hs)]
  · cases lvl
    · by_cases hc : s.params.confirmTicks ≤ (elapsed (s.tick + 1#16) s.pendingStartTick).toNat
      · rw [ticked_confirms s hs hc, ticked_confirms _ (by exact hs) (by exact hc)]; rfl
      · rw [ticked_waits s hs (Nat.not_le.mp hc), ticked_waits _ (by exact hs) (by exact Nat.not_le.mp hc)]
    · rw [ticked_noise s hs, ticked_noise _ (by exact hs)]
  · cases lvl
    · rw [ticked_shapes s hs, ticked_shapes _ (by exact hs)]; rfl
    · have hclosed : closeOutput (advance { s with prevInputState := l }) =
          { closeOutput (advance s) with prevInputState := l } := rfl
      rw [ticked_closes s hs, ticked_closes _ (by exact hs), hclosed, calibrate_withPrevInputState]

/-- `SHAPE` writes a level that does not depend on the present one, or keeps the present one, whichever it is (R155). -/
theorem shapedLevel_withOutLevel (t : Word) (s : State) (o : Level) :
    shapedLevel t { s with outLevel := o } = shapedLevel t s ∨
    (shapedLevel t s = s.outLevel ∧ shapedLevel t { s with outLevel := o } = o) := by
  have hshaped : shapedLevel t { s with outLevel := o } =
      if s.mode0 then .low else if s.mode100 then .high else if onTimeReached s t then .low else o := rfl
  rw [hshaped, shapedLevel]
  split
  · exact .inl rfl
  · split
    · exact .inl rfl
    · split
      · exact .inl rfl
      · exact .inr ⟨rfl, rfl⟩

/-- A `TICK` does not read the output level: from two states that differ in it alone it either writes the same level in both
or keeps it in both, and everything else comes out the same. -/
theorem ticked_withOutLevel (lvl : Level) (s : State) (o : Level) :
    ticked lvl { s with outLevel := o } = ticked lvl s ∨
    ((ticked lvl s).outLevel = s.outLevel ∧ ticked lvl { s with outLevel := o } = { ticked lvl s with outLevel := o }) := by
  rcases state_cases s.state with hs | hs | hs
  · rw [ticked_idle lvl s hs, ticked_idle lvl _ (by exact hs)]
    exact .inr ⟨rfl, rfl⟩
  · cases lvl
    · by_cases hc : s.params.confirmTicks ≤ (elapsed (s.tick + 1#16) s.pendingStartTick).toNat
      · rw [ticked_confirms s hs hc, ticked_confirms _ (by exact hs) (by exact hc)]
        exact .inl rfl
      · rw [ticked_waits s hs (Nat.not_le.mp hc), ticked_waits _ (by exact hs) (by exact Nat.not_le.mp hc)]
        exact .inr ⟨rfl, rfl⟩
    · rw [ticked_noise s hs, ticked_noise _ (by exact hs)]
      exact .inr ⟨rfl, rfl⟩
  · cases lvl
    · rw [ticked_shapes s hs, ticked_shapes _ (by exact hs)]
      rcases shapedLevel_withOutLevel (s.tick + 1#16) s o with h | ⟨hkept, h⟩
      · exact .inl (by rw [h])
      · exact .inr ⟨hkept, by rw [h]⟩
    · rw [ticked_closes s hs, ticked_closes _ (by exact hs)]
      exact .inl rfl

/-! ### Two states that agree on what an instruction may read are treated alike (R42) -/

/-- The effect `f` writes each register with the same value in both states, or keeps it in both. -/
def TreatsAlike (f : State → State) (s s' : State) : Prop :=
  ∀ r : Reg, (f s').read r = (f s).read r ∨ ((f s).read r = s.read r ∧ (f s').read r = s'.read r)

/-- Only the registers an instruction may write have to be compared: it keeps the others in both states. -/
theorem effect_treatsAlike_of_mayWrite {i : Instr} {s s' : State}
    (h : ∀ r, mayWrite i r = true → (effect i s').read r = (effect i s).read r) : TreatsAlike (effect i) s s' := by
  intro r
  cases hw : mayWrite i r
  · exact .inr ⟨effect_read_of_not_mayWrite i s hw, effect_read_of_not_mayWrite i s' hw⟩
  · exact .inl (h r hw)

theorem ticked_treatsAlike {lvl : Level} {s s' : State} (hp : s'.params = s.params)
    (h : ∀ r, mayRead (.tick lvl) r = true → s'.read r = s.read r) : TreatsAlike (ticked lvl) s s' := by
  rw [eq_of_tick_reads_agree hp h]
  generalize s'.prevInputState = l, s'.outLevel = o, s'.events = es, s'.cycles = cs
  have hticked : ticked lvl { s with prevInputState := l, outLevel := o, events := es, cycles := cs } =
      { ticked lvl { s with outLevel := o } with events := es, cycles := cs } :=
    (ticked_withInputs lvl { s with prevInputState := l, outLevel := o } es cs).trans
      (by rw [ticked_withPrevInputState lvl { s with outLevel := o } l])
  intro r
  rw [hticked, read_withInputs]
  rcases ticked_withOutLevel lvl s o with hsame | ⟨hkept, ho⟩
  · exact .inl (by rw [hsame])
  · rw [ho]
    by_cases hr : r = .outLevel
    · subst hr
      exact .inr ⟨congrArg (fun l : Level => l.bits.setWidth 32) hkept, rfl⟩
    · exact .inl (read_withOutLevel _ o hr)

theorem edgeDetected_treatsAlike {lvl : Level} {s s' : State} (htick : s'.tick = s.tick) (hstate : s'.state = s.state) :
    TreatsAlike (edgeDetected lvl) s s' := by
  rcases edgeDetected_cases lvl s with ⟨hs, rfl, -⟩ | ⟨hs, he⟩
  · refine effect_treatsAlike_of_mayWrite (i := .edge .low) fun r hw => ?_
    simp only [effect, edgeDetected_opens s hs, edgeDetected_opens s' (hstate.trans hs), htick]
    cases r <;> simp [mayWrite] at hw <;> rfl
  · intro r
    rw [he, edgeDetected_ignored lvl s' (hstate ▸ hs)]
    exact .inr ⟨rfl, rfl⟩

/-- The reads of every instruction (R42). -/
theorem effect_treatsAlike (i : Instr) {s s' : State} (hp : s'.params = s.params)
    (h : ∀ r, mayRead i r = true → s'.read r = s.read r) : TreatsAlike (effect i) s s' := by
  cases i
  case nop | diag | reserved6 => exact fun r => .inr ⟨rfl, rfl⟩
  case tick lvl => exact ticked_treatsAlike hp h
  case edge lvl =>
    exact edgeDetected_treatsAlike (word_eq_of_read (h .tick rfl)) (detectionState_eq_of_read (h .state rfl))
  case setDuty arg =>
    refine effect_treatsAlike_of_mayWrite fun r hw => ?_
    obtain rfl : r = .dutyPercent := by simpa [mayWrite] using hw
    simp [effect, State.read, hp]
  case resetCal =>
    refine effect_treatsAlike_of_mayWrite fun r hw => ?_
    cases r <;> simp [mayWrite] at hw <;> rfl
  case hwreset =>
    refine effect_treatsAlike_of_mayWrite fun r hw => ?_
    cases r <;> simp [mayWrite] at hw
    case dutyPercent => simp [effect, hardwareReset, State.read, hp]
    all_goals rfl

/-- The result returned depends on what the instruction may read only (R86, R174). -/
theorem returned_of_reads_agree (i : Instr) {s s' : State} (h : ∀ r, mayRead i r = true → s'.read r = s.read r) :
    returned i s' = returned i s := by
  cases i
  case diag =>
    have hfixed : s'.fixedLowTicks = s.fixedLowTicks := word_eq_of_read (h .fixedLowTicks rfl)
    have hdone : s'.calibDone = s.calibDone := flag_eq_of_read (h .calibDone rfl)
    simp only [returned, diagResult, diagFreq, hfixed, hdone]
  all_goals rfl

/-- Settles O17: the frame of every effect for the writes, and for the reads that a register is written with the same value
in both states or kept in both. -/
theorem registerAccessTable : Obligations.RegisterAccessTable := by
  refine ⟨fun i s t h => ?_, fun i s t s' t' hp hr h h' => ?_⟩
  · obtain ⟨-, rfl⟩ := (exec_next_iff i s t).mp h
    exact ⟨fun r => effect_read_of_not_mayWrite i s, effect_inputs i s⟩
  · obtain ⟨-, rfl⟩ := (exec_next_iff i s t).mp h
    obtain ⟨-, rfl⟩ := (exec_next_iff i s' t').mp h'
    exact ⟨returned_of_reads_agree i hr, effect_treatsAlike i hp hr⟩

/-! ### When the output and the calibration may change (R44) -/

/-- The output level and every calibration register of `t` are those of `s`: what a window may touch once confirmed (R44). -/
def KeepsOutputAndCalibration (s t : State) : Prop :=
  t.outLevel = s.outLevel ∧ t.lastLowTicks = s.lastLowTicks ∧ t.fixedLowTicks = s.fixedLowTicks ∧
    t.calibDone = s.calibDone ∧ t.sumLow = s.sumLow ∧ t.minLow = s.minLow ∧ t.maxLow = s.maxLow ∧
    t.sampleCnt = s.sampleCnt

theorem edgeDetected_keepsOutputAndCalibration (lvl : Level) (s : State) :
    KeepsOutputAndCalibration s (edgeDetected lvl s) := by
  rcases edgeDetected_cases lvl s with ⟨_, _, h⟩ | ⟨_, h⟩ <;> rw [h] <;> exact ⟨rfl, rfl, rfl, rfl, rfl, rfl, rfl, rfl⟩

/-- A `TICK` touches the output and the calibration only where it confirms a window or finds one confirmed (R44). -/
theorem ticked_keepsOutputAndCalibration_or (lvl : Level) (s : State) :
    KeepsOutputAndCalibration s (ticked lvl s) ∨ (s.state = .lowPending ∧ (ticked lvl s).state = .lowActive) ∨
      s.state = .lowActive := by
  rcases ticked_cases lvl s with ⟨_, h⟩ | ⟨_, _, h⟩ | ⟨_, _, _, h⟩ | ⟨hs, _, _, h⟩ | ⟨hs, _⟩ | ⟨hs, _⟩ | ⟨hs, _⟩
  case inr.inr.inr.inl => exact .inr (.inl ⟨hs, by rw [h]⟩)
  case inr.inr.inr.inr.inl | inr.inr.inr.inr.inr.inl | inr.inr.inr.inr.inr.inr => exact .inr (.inr hs)
  all_goals rw [h]; exact .inl ⟨rfl, rfl, rfl, rfl, rfl, rfl, rfl, rfl⟩

/-- Settles O42, by the instruction: an `EDGE` and the foreground writes keep those registers, a `TICK` touches them at the
confirmation and in `LOW_ACTIVE` alone. -/
theorem onlyConfirmedWindowsTouchOutputAndCalibration : Obligations.OnlyConfirmedWindowsTouchOutputAndCalibration := by
  intro i s t h
  obtain ⟨-, rfl⟩ := (exec_next_iff i s t).mp h
  cases i
  case nop | setDuty | diag | reserved6 => exact .inl ⟨rfl, rfl, rfl, rfl, rfl, rfl, rfl, rfl⟩
  case edge lvl => exact .inl (edgeDetected_keepsOutputAndCalibration lvl s)
  case tick lvl =>
    rcases ticked_keepsOutputAndCalibration_or lvl s with hkept | hconfirms | hactive
    · exact .inl hkept
    · exact .inr (.inl hconfirms)
    · exact .inr (.inr (.inl ⟨hactive, lvl, rfl⟩))
  case resetCal => exact .inr (.inr (.inr (.inl ⟨rfl, rfl⟩)))
  case hwreset => exact .inr (.inr (.inr (.inr rfl)))

end Sys2Proof.Machine

/-! The family of spec/40_tick_clock.md: the wrap-safe elapsed time (R112), and the counter along a sequence of events
(R110, R111, R113). -/

namespace Sys2Proof.Machine

/-! ### The elapsed time (R112) -/

theorem elapsed_toNat (a b : Word) : (elapsed a b).toNat = (a.toNat + 65536 - b.toNat) % 65536 := by
  have hb : b.toNat < 65536 := b.isLt
  rw [elapsed, BitVec.toNat_sub, ← Nat.sub_add_comm hb.le, Nat.add_comm]

@[simp] theorem elapsed_self (a : Word) : elapsed a a = 0#16 := BitVec.sub_self a

/-- The later stamp has wrapped past zero. -/
theorem elapsed_toNat_of_lt {a b : Word} (h : a.toNat < b.toNat) : (elapsed a b).toNat = a.toNat + 65536 - b.toNat := by
  rw [elapsed_toNat]
  exact Nat.mod_eq_of_lt (by omega)

/-- No wrap between the stamps. -/
theorem elapsed_toNat_of_le {a b : Word} (h : b.toNat ≤ a.toNat) : (elapsed a b).toNat = a.toNat - b.toNat :=
  BitVec.toNat_sub_of_le h

/-- The distance from a stamp to that stamp moved on by `d`, whether or not the sum wraps. -/
@[simp] theorem elapsed_add_self (a d : Word) : elapsed (a + d) a = d := by
  rw [elapsed, BitVec.add_comm, BitVec.add_sub_cancel]

/-- Settles O19, by whether the first stamp lies below the second. -/
theorem elapsedWrapsUnsigned : Obligations.ElapsedWrapsUnsigned := by
  refine ⟨fun a b => ⟨elapsed_toNat a b, ?_, elapsed_toNat_of_lt, elapsed_toNat_of_le⟩, by decide⟩
  rintro rfl
  rw [elapsed_self]
  rfl

/-! ### The counter along a sequence of events (R110, R111, R113) -/

theorem calibrate_tick (w : Word) (s : State) : (calibrate w s).tick = s.tick := by
  rw [calibrate_frame]

/-- A `TICK` counts once, whichever of its branches runs (R110, R121). -/
theorem ticked_tick (lvl : Level) (s : State) : (ticked lvl s).tick = s.tick + 1#16 := by
  rcases ticked_cases lvl s with ⟨_, h⟩ | ⟨_, _, h⟩ | ⟨_, _, _, h⟩ | ⟨_, _, _, h⟩ | ⟨_, _, h⟩ | ⟨_, _, _, h⟩ | ⟨_, _, _, h⟩
  case inr.inr.inr.inr.inr.inr =>
    exact (congrArg State.tick h).trans (calibrate_tick _ (closeOutput (advance s)))
  all_goals exact congrArg State.tick h

theorem edgeDetected_tick (lvl : Level) (s : State) : (edgeDetected lvl s).tick = s.tick := by
  rcases edgeDetected_cases lvl s with ⟨_, _, h⟩ | ⟨_, h⟩ <;> rw [h]

@[simp] theorem tickCount_singleton_tick (lvl : Level) : tickCount [.tick lvl] = 1 := by cases lvl <;> rfl

theorem tickCount_cons (i : Instr) (is : List Instr) : tickCount (i :: is) = tickCount [i] + tickCount is := by
  rw [tickCount, ← List.singleton_append, List.filter_append, List.length_append]
  rfl

/-- Every instruction but `HWRESET` moves the counter by the number of `TICK`s it is: one or none. -/
theorem effect_tick {i : Instr} (h : i ≠ .hwreset) (s : State) :
    (effect i s).tick = s.tick + BitVec.ofNat 16 (tickCount [i]) := by
  have hnone : s.tick = s.tick + BitVec.ofNat 16 0 := (BitVec.add_zero s.tick).symm
  cases i
  case tick lvl => rw [tickCount_singleton_tick]; exact ticked_tick lvl s
  case edge lvl => exact (edgeDetected_tick lvl s).trans hnone
  case hwreset => exact absurd rfl h
  all_goals exact hnone

theorem run_tick {is : List Instr} {s t : State} (hmem : .hwreset ∉ is) (h : run is s = .next t) :
    t.tick = s.tick + BitVec.ofNat 16 (tickCount is) := by
  induction is generalizing s with
  | nil => cases h; exact (BitVec.add_zero t.tick).symm
  | cons i rest ih =>
    obtain ⟨hi, hrest⟩ := List.ne_and_not_mem_of_not_mem_cons hmem
    obtain ⟨-, hr⟩ := (run_cons_next_iff i rest s t).mp h
    calc t.tick
        = (effect i s).tick + BitVec.ofNat 16 (tickCount rest) := ih hrest hr
      _ = s.tick + BitVec.ofNat 16 (tickCount [i]) + BitVec.ofNat 16 (tickCount rest) := by rw [effect_tick hi.symm]
      _ = s.tick + BitVec.ofNat 16 (tickCount (i :: rest)) := by
        rw [tickCount_cons i rest, BitVec.ofNat_add, BitVec.add_assoc]

/-- Settles O20: the counter moves by the number of `TICK`s, by induction on the sequence, and the elapsed time takes the first
stamp off again. -/
theorem elapsedCountsTicksModuloTheRange : Obligations.ElapsedCountsTicksModuloTheRange := by
  intro is s t hmem h
  have htick := run_tick hmem h
  refine ⟨htick, ?_⟩
  rw [now, now, htick, elapsed_add_self]
  exact BitVec.toNat_ofNat _ 16

end Sys2Proof.Machine

/-! The family of spec/41_pulse_window_fsm.md: the transition table (R129), the opening of a pending window (R120), and the
`TICK`s that record no window (R122, R125). -/

namespace Sys2Proof.Machine

/-! ### The transition table (R129) -/

/-- The row `EDGE` of the table. -/
theorem edgeDetected_state (lvl : Level) (s : State) :
    (edgeDetected lvl s).state = nextDetectionState (.edge lvl) s := by
  rcases edgeDetected_cases lvl s with ⟨hs, rfl, h⟩ | ⟨hs, h⟩ <;> rw [h]
  · simp [nextDetectionState, hs]
  · rcases hs with hs | rfl
    · cases lvl <;> simp [nextDetectionState, hs]
    · rfl

/-- The row `TICK` of the table: the branch that runs decides the state, and the procedures it calls do not write it after
that. -/
theorem ticked_state (lvl : Level) (s : State) : (ticked lvl s).state = nextDetectionState (.tick lvl) s := by
  rcases ticked_cases lvl s with ⟨hs, h⟩ | ⟨hs, rfl, h⟩ | ⟨hs, rfl, hc, h⟩ | ⟨hs, rfl, hc, h⟩ | ⟨hs, rfl, h⟩ |
    ⟨hs, rfl, _, h⟩ | ⟨hs, rfl, _, h⟩ <;> rw [h]
  case inl => cases lvl <;> simp [nextDetectionState, hs]
  case inr.inr.inl | inr.inr.inr.inl => simp [nextDetectionState, hs, hc]
  all_goals simp [nextDetectionState, hs]

theorem effect_state (i : Instr) (s : State) : (effect i s).state = nextDetectionState i s := by
  cases i
  case tick lvl => exact ticked_state lvl s
  case edge lvl => exact edgeDetected_state lvl s
  all_goals rfl

/-- Settles O41, by the row of the table: `TICK` and `EDGE` by the branch that runs, the other rows by definition. -/
theorem transitionTableIsComplete : Obligations.TransitionTableIsComplete := by
  intro i s t h
  obtain ⟨-, rfl⟩ := (exec_next_iff i s t).mp h
  exact effect_state i s

/-! ### One event by itself on the ports -/

@[simp] theorem run_singleton (i : Instr) (s : State) : run [i] s = exec i s := by
  cases h : exec i s <;> simp [run, h]

/-- The bundle that presents one event performs that event alone (R88, R95). -/
theorem clock_asBundle (i : Instr) (s : State) : clock (asBundle i) s = exec i s := by
  cases i
  case nop => rfl
  all_goals exact run_singleton _ s

/-! ### EDGE (R120) and the TICKs that record no window (R122, R125) -/

/-- Settles O28, by the guard of `EDGE`: a low sample in `IDLE_HIGH` opens, every other is ignored. -/
theorem edgeOpensAPendingWindow : Obligations.EdgeOpensAPendingWindow := by
  refine ⟨rfl, rfl, fun s hl => ⟨fun hs => ?_, fun hs => ?_, ?_, fun l => clock_asBundle (.edge l) s⟩⟩
  · exact (exec_next_iff _ s _).mpr ⟨hl, edgeDetected_opens s hs⟩
  · exact (exec_next_iff _ s _).mpr ⟨hl, edgeDetected_ignored .low s (.inl hs)⟩
  · exact (exec_next_iff _ s _).mpr ⟨hl, edgeDetected_ignored .high s (.inr rfl)⟩

/-- Settles O29: the branch of `TICK` in `IDLE_HIGH` writes nothing after the advance. -/
theorem tickInIdleOnlyCounts : Obligations.TickInIdleOnlyCounts :=
  fun l s hl hs => (exec_next_iff _ s _).mpr ⟨hl, ticked_idle l s hs⟩

/-- Settles O30: the branch of `TICK 1` in `LOW_PENDING` does not look at the threshold. -/
theorem highSampleRejectsThePendingWindow : Obligations.HighSampleRejectsThePendingWindow :=
  fun s hl hs => (exec_next_iff _ s _).mpr ⟨hl, ticked_noise s hs⟩

end Sys2Proof.Machine

/-! The family of spec/42_calibration.md: the window that closes in the band and feeds the batch (R143). -/

namespace Sys2Proof.Machine

/-! ### The tests of a window close (R127, R142) -/

theorem aboveFloor_iff (p : Params) (w : Word) : aboveFloor p w = true ↔ p.minLowTicks ≤ w.toNat := decide_eq_true_iff

theorem inBand_iff (p : Params) (w : Word) :
    inBand p w = true ↔ p.periodMinTicks ≤ w.toNat ∧ w.toNat ≤ p.periodMaxTicks := decide_eq_true_iff

/-! ### The batch registers with one more sample, as numbers (R143) -/

theorem batchMin_toNat (s : State) (w : Word) :
    (batchMin s w).toNat = if s.sampleCnt = 0#8 then w.toNat else min s.minLow.toNat w.toNat := by
  unfold batchMin
  split
  · rfl
  · split
    case isTrue h => exact (Nat.min_eq_right (BitVec.lt_def.mp h).le).symm
    case isFalse h => exact (Nat.min_eq_left (Nat.not_lt.mp h)).symm

theorem batchMax_toNat (s : State) (w : Word) :
    (batchMax s w).toNat = if s.sampleCnt = 0#8 then w.toNat else max s.maxLow.toNat w.toNat := by
  unfold batchMax
  split
  · rfl
  · split
    case isTrue h => exact (Nat.max_eq_right (BitVec.lt_def.mp h).le).symm
    case isFalse h => exact (Nat.max_eq_left (Nat.not_lt.mp h)).symm

/-- A batch that is not yet full can count one more sample in its 8 bits. -/
theorem sampleCnt_succ_toNat {s : State} (hl : s.params.legal = true) (hb : s.BatchInv) :
    (s.sampleCnt + 1#8).toNat = s.sampleCnt.toNat + 1 := by
  obtain ⟨-, -, -, -, -, hbatch, -⟩ := (legal_iff s.params).mp hl
  exact BitVec.toNat_add_of_lt (Nat.lt_of_le_of_lt hb.1 (Nat.lt_succ_of_le hbatch))

/-- The sum of a batch is at most that many samples of the largest register value. -/
theorem sumLow_toNat_le {s : State} (hb : s.BatchInv) : s.sumLow.toNat ≤ s.sampleCnt.toNat * 65535 := by
  obtain ⟨-, hempty, hfilled, -⟩ := hb
  rcases Nat.eq_zero_or_pos s.sampleCnt.toNat with h0 | hpos
  · rw [hempty (BitVec.eq_of_toNat_eq h0)]
    exact Nat.zero_le _
  · obtain ⟨-, -, -, -, hsum, -, -⟩ := hfilled hpos
    exact hsum.trans (Nat.mul_le_mul_left _ (Nat.le_of_lt_succ s.maxLow.isLt))

/-- The 32-bit sum of a batch with one more sample does not wrap (log 25). -/
theorem sumLow_add_toNat {s : State} (hb : s.BatchInv) (w : Word) :
    (s.sumLow + w.setWidth 32).toNat = s.sumLow.toNat + w.toNat := by
  have hsum := sumLow_toNat_le hb
  have hcnt : s.sampleCnt.toNat < 256 := s.sampleCnt.isLt
  have hw : w.toNat < 65536 := w.isLt
  have hwide : (w.setWidth 32).toNat = w.toNat := BitVec.toNat_setWidth_of_le (by decide)
  rw [BitVec.toNat_add_of_lt (by rw [hwide]; omega), hwide]

/-! ### The close of an accepted window (R127, R143) -/

/-- A close at or above the noise floor hands the measured width to the calibration. -/
theorem ticked_accepts {s : State} (hs : s.state = .lowActive)
    (hfloor : s.params.minLowTicks ≤ (elapsed (s.tick + 1#16) s.lowStartTick).toNat) :
    ticked .high s =
      { calibrate (elapsed (s.tick + 1#16) s.lowStartTick) (closeOutput (advance s)) with
        state := .idleHigh, prevInputState := .high } := by
  rw [ticked_closes s hs, (aboveFloor_iff _ _).mpr hfloor, if_pos rfl]

/-- A close in the band that leaves the batch short of `BATCH_N` samples feeds it. -/
theorem ticked_feeds {s : State} (hs : s.state = .lowActive)
    (hfloor : s.params.minLowTicks ≤ (elapsed (s.tick + 1#16) s.lowStartTick).toNat)
    (hband : inBand s.params (elapsed (s.tick + 1#16) s.lowStartTick) = true)
    (hn : (s.sampleCnt + 1#8).toNat ≠ s.params.batchN) :
    ticked .high s =
      { s with
        tick := s.tick + 1#16
        state := .idleHigh
        outLevel := .low
        mode0 := false
        mode100 := false
        prevInputState := .high
        lastLowTicks := elapsed (s.tick + 1#16) s.lowStartTick
        sumLow := s.sumLow + (elapsed (s.tick + 1#16) s.lowStartTick).setWidth 32
        minLow := batchMin s (elapsed (s.tick + 1#16) s.lowStartTick)
        maxLow := batchMax s (elapsed (s.tick + 1#16) s.lowStartTick)
        sampleCnt := s.sampleCnt + 1#8 } := by
  rw [ticked_accepts hs hfloor, calibrate_feeds _ (closeOutput (advance s)) hband hn]
  rfl

/-- Settles O39: the close feeds the batch, and under the batch invariant neither the count nor the sum wraps. -/
theorem closeInBandFeedsTheBatch : Obligations.CloseInBandFeedsTheBatch := by
  rintro s w hl hb hs rfl hfloor hmin hmax hshort
  have hcnt := sampleCnt_succ_toNat hl hb
  have hfed := ticked_feeds hs hfloor ((inBand_iff _ _).mpr ⟨hmin, hmax⟩) (hcnt ▸ hshort.ne)
  exact ⟨_, (exec_next_iff _ s _).mpr ⟨hl, hfed⟩, rfl, sumLow_add_toNat hb _, hcnt, batchMin_toNat s _,
    batchMax_toNat s _⟩

end Sys2Proof.Machine

/-! The family of spec/44_foreground_api.md: the clamp of `SET_DUTY` (R170, R171), `RESET_CAL` (R172) and `NOP` (R176). -/

namespace Sys2Proof.Machine

/-! ### The clamp of SET_DUTY (R170, R171) -/

theorem dutyResolution_lt_of_legal {p : Params} (h : p.legal = true) : p.dutyResolution < 2 ^ 16 := by
  obtain ⟨-, -, -, -, -, -, -, hres, -⟩ := (legal_iff p).mp h
  omega

/-- The clamped word as a number: only a resolution that fits a register can be written at the upper end. -/
theorem clampDuty_toNat {p : Params} (hres : p.dutyResolution < 2 ^ 16) (arg : Word) :
    ((clampDuty p arg).toNat : Int) = min (max arg.toInt 0) (p.dutyResolution : Int) := by
  unfold clampDuty
  split
  case isTrue hneg =>
    rw [max_eq_right hneg.le, min_eq_left (Int.natCast_nonneg _)]
    rfl
  case isFalse hneg =>
    rw [max_eq_left (Int.not_lt.mp hneg)]
    split
    case isTrue habove => rw [min_eq_right habove.le, BitVec.toNat_ofNat, Nat.mod_eq_of_lt hres]
    case isFalse hwithin =>
      rw [min_eq_left (Int.not_lt.mp hwithin), BitVec.toInt_eq_toNat_of_msb]
      exact Bool.eq_false_iff.mpr (mt BitVec.toInt_neg_of_msb_true hneg)

/-- Settles O24: the word written is the clamp of the operand, and the effect writes `duty_percent` alone. -/
theorem setDutyClampsTheRequest : Obligations.SetDutyClampsTheRequest :=
  fun arg s hl =>
    ⟨clampDuty s.params arg, clampDuty_toNat (dutyResolution_lt_of_legal hl) arg, (exec_next_iff _ s _).mpr ⟨hl, rfl⟩⟩

/-! ### NOP and RESET_CAL (R172, R176) -/

/-- A cycle with every strobe 0 presents no event, whatever its other ports hold (R88). -/
theorem expand_eq_nil_of_no_strobe {b : Bundle} (hrst : b.rst = false) (hcv : b.cv = false) (hes : b.es = false)
    (hts : b.ts = false) : b.expand = [] := by
  simp [Bundle.expand, hrst, hcv, hes, hts]

/-- A cycle that presents no event is one `NOP` (R88, R206). -/
theorem clock_of_expand_eq_nil {b : Bundle} (h : b.expand = []) (s : State) : clock b s = exec .nop s := by
  rw [clock, h]
  rfl

theorem exec_nop {s : State} (h : s.params.legal = true) : exec .nop s = .next s :=
  (exec_next_iff _ s _).mpr ⟨h, rfl⟩

/-- Settles O21: `NOP` by its effect, and a cycle without a strobe because it presents no event. -/
theorem nopChangesNothing : Obligations.NopChangesNothing := by
  refine ⟨rfl, fun s hl => ⟨exec_nop hl, rfl, fun b hrst hcv hes hts => ?_⟩⟩
  rw [clock_of_expand_eq_nil (expand_eq_nil_of_no_strobe hrst hcv hes hts), exec_nop hl]

/-- Settles O25: the words by the decoder's row, the registers by the effect, which is the update R172 writes out. -/
theorem resetCalZeroesTheWindowManager : Obligations.ResetCalZeroesTheWindowManager :=
  ⟨rfl, fun _ => rfl, fun s hl => (exec_next_iff _ s _).mpr ⟨hl, rfl⟩⟩

end Sys2Proof.Machine

/-! The family of spec/30_encoding.md: event words (R82 to R85, R95), bundle words and the events of one clock cycle
(R87 to R90). -/

namespace Sys2Proof.Machine

/-! ### Event words (R82 to R85, R95) -/

/-- Settles O2: the decoder reads back the three fields the encoder wrote. -/
theorem decodeEncodeAgree : Obligations.DecodeEncodeAgree := by
  intro i
  cases i <;> simp [decode, encode]

/-- Settles O1, by evaluating the decoder on each word of the table. -/
theorem traceTableWordsDecode : Obligations.TraceTableWordsDecode := by
  unfold Obligations.TraceTableWordsDecode
  decide

/-- The mask of R84 keeps the field `op` and clears the others. -/
theorem and_opMask (w : EventWord) : w &&& 0xE0000#20 = (EventWord.op w).setWidth 20 <<< 17 := by
  apply BitVec.eq_of_getLsbD_eq
  intro i hi
  simp only [EventWord.op, BitVec.getLsbD_and, BitVec.getLsbD_shiftLeft, BitVec.getLsbD_setWidth,
    BitVec.getLsbD_extractLsb']
  interval_cases i <;> simp

/-- Settles O3: the masked word is the operation code, and the decoder goes by that code alone. -/
theorem decodeFollowsMatchAndMask : Obligations.DecodeFollowsMatchAndMask := by
  intro w
  rw [and_opMask]
  rcases decode_cases w with ⟨ho, hd⟩ | ⟨ho, hd⟩ | ⟨ho, hd⟩ | ⟨ho, hd⟩ | ⟨ho, hd⟩ | ⟨ho, hd⟩ | ⟨ho, hd⟩ | ⟨ho, hd⟩ <;>
    simp [ho, hd]

/-- An event word is determined by its fields. -/
theorem eventWord_make_inj {o o' : BitVec 3} {l l' : Level} {a a' : Word} :
    EventWord.make o l.bits a = EventWord.make o' l'.bits a' ↔ o = o' ∧ l = l' ∧ a = a' := by
  refine ⟨fun h => ⟨?_, ?_, ?_⟩, fun ⟨ho, hl, ha⟩ => by rw [ho, hl, ha]⟩
  · simpa using congrArg EventWord.op h
  · simpa using congrArg EventWord.lvl h
  · simpa using congrArg EventWord.arg h

/-- The mask of R85 keeps the operation code and the fields named by the two flags. -/
theorem and_usedFieldsMask (w : EventWord) (useLvl useArg : Bool) :
    w &&& (0xE0000#20 ||| (if useLvl then 0x10000#20 else 0#20) ||| (if useArg then 0x0FFFF#20 else 0#20)) =
      EventWord.make (EventWord.op w) (if useLvl then EventWord.lvl w else .low).bits
        (if useArg then EventWord.arg w else 0#16) := by
  have hlow : Level.low.toBit = false := rfl
  apply BitVec.eq_of_getLsbD_eq
  intro i hi
  cases useLvl <;> cases useArg <;>
    simp only [EventWord.make, EventWord.op, EventWord.lvl, EventWord.arg, Level.bits, BitVec.getLsbD_or,
      BitVec.getLsbD_and, BitVec.getLsbD_shiftLeft, BitVec.getLsbD_setWidth, BitVec.getLsbD_extractLsb',
      BitVec.getLsbD_ofBool, if_true, if_false, Bool.false_eq_true, Level.toBit_ofBit, hlow] <;>
    interval_cases i <;> simp

/-- Re-encoding a decoded word keeps the operation code and the fields the operation uses (R84, R85). -/
theorem encode_decode (w : EventWord) :
    encode (decode w) =
      EventWord.make (EventWord.op w) (if (decode w).usesLvl then EventWord.lvl w else .low).bits
        (if (decode w).usesArg then EventWord.arg w else 0#16) := by
  rcases decode_cases w with ⟨ho, hd⟩ | ⟨ho, hd⟩ | ⟨ho, hd⟩ | ⟨ho, hd⟩ | ⟨ho, hd⟩ | ⟨ho, hd⟩ | ⟨ho, hd⟩ | ⟨ho, hd⟩ <;>
    rw [ho, hd] <;> rfl

/-- Settles O4: re-encoding and masking both give the word of the used fields alone, and a word is that word exactly if its
unused fields are zero. -/
theorem reencodingClearsUnusedFields : Obligations.ReencodingClearsUnusedFields := by
  intro w
  refine ⟨(encode_decode w).trans (and_usedFieldsMask w _ _).symm, ?_⟩
  have hfields : encode (decode w) = w ↔
      encode (decode w) = EventWord.make (EventWord.op w) (EventWord.lvl w).bits (EventWord.arg w) := by
    rw [EventWord.make_fields]
  rw [hfields, encode_decode, eventWord_make_inj, EventWord.canonical]
  cases (decode w).usesLvl <;> cases (decode w).usesArg <;>
    simp [eq_comm (a := Level.low), eq_comm (a := 0#16)]

/-! ### Bundle words -/

/-- The fields are read back from the bundle word at the positions it holds them (R87). -/
theorem ofWord_toWord (b : Bundle) : Bundle.ofWord b.toWord = b := by
  obtain ⟨rst, cv, cop, carg, es, ts, il⟩ := b
  simp only [Bundle.ofWord, Bundle.mk.injEq]
  refine ⟨by simp [Bundle.toWord], by simp [Bundle.toWord], ?_, ?_, by simp [Bundle.toWord], by simp [Bundle.toWord],
    by simp [Bundle.toWord, Level.bits]⟩
  · ext i hi
    interval_cases i <;> simp [Bundle.toWord]
  · ext i hi
    interval_cases i <;> simp [Bundle.toWord]

theorem toWord_ofWord (w : BundleWord) : (Bundle.ofWord w).toWord = w := by
  apply BitVec.eq_of_getLsbD_eq
  intro i hi
  simp only [Bundle.toWord, Bundle.ofWord, Level.bits, Level.toBit_ofBit, BitVec.getLsbD_or, BitVec.getLsbD_shiftLeft,
    BitVec.getLsbD_setWidth, BitVec.getLsbD_extractLsb', BitVec.getLsbD_ofBool]
  interval_cases i <;> simp

/-- A field moved to its place, as a number. -/
theorem toNat_field {m : Nat} (x : BitVec m) {n k : Nat} (h : m + k ≤ n) :
    (x.setWidth n <<< k).toNat = x.toNat * 2 ^ k := by
  have hx : x.toNat * 2 ^ k < 2 ^ n :=
    lt_of_lt_of_le (Nat.mul_lt_mul_of_pos_right x.isLt (by positivity))
      (by rw [← Nat.pow_add]; exact Nat.pow_le_pow_right (by decide) h)
  rw [BitVec.toNat_shiftLeft, BitVec.toNat_setWidth_of_le (by omega), Nat.shiftLeft_eq, Nat.mod_eq_of_lt hx]

/-- Joining a multiple of `2 ^ k` with a number below `2 ^ k` adds them. -/
theorem toNat_or_of_dvd {n a c k : Nat} {x y : BitVec n} (hx : x.toNat = a) (hy : y.toNat = c) (ha : 2 ^ k ∣ a)
    (hc : c < 2 ^ k) : (x ||| y).toNat = a + c := by
  obtain ⟨d, rfl⟩ := ha
  rw [BitVec.toNat_or, hx, hy, Nat.two_pow_add_eq_or_of_lt hc]

/-- The bundle as a number: each field at the weight of its lowest bit (R87). -/
theorem toNat_toWord (b : Bundle) : b.toWord.toNat =
    b.rst.toNat * 2 ^ 22 + b.cv.toNat * 2 ^ 21 + b.cop.toNat * 2 ^ 19 + b.carg.toNat * 2 ^ 3 + b.es.toNat * 2 ^ 2 +
      b.ts.toNat * 2 + (if b.il = .high then 1 else 0) := by
  have hcop : b.cop.toNat < 2 ^ 2 := b.cop.isLt
  have hcarg : b.carg.toNat < 2 ^ 16 := b.carg.isLt
  have hcv : b.cv.toNat < 2 := Bool.toNat_lt b.cv
  have hes : b.es.toNat < 2 := Bool.toNat_lt b.es
  have hts : b.ts.toNat < 2 := Bool.toNat_lt b.ts
  have hil : (b.il.bits.setWidth 23).toNat = if b.il = .high then 1 else 0 := by cases b.il <;> rfl
  have flag (x : Bool) (k : Nat) (hk : 1 + k ≤ 23) :
      ((BitVec.ofBool x).setWidth 23 <<< k).toNat = x.toNat * 2 ^ k := by
    rw [toNat_field _ hk, BitVec.toNat_ofBool]
  have h21 := toNat_or_of_dvd (k := 22) (flag b.rst 22 (by decide)) (flag b.cv 21 (by decide)) (by omega) (by omega)
  have h19 := toNat_or_of_dvd (k := 21) h21 (toNat_field b.cop (n := 23) (k := 19) (by decide)) (by omega) (by omega)
  have h3 := toNat_or_of_dvd (k := 19) h19 (toNat_field b.carg (n := 23) (k := 3) (by decide)) (by omega) (by omega)
  have h2 := toNat_or_of_dvd (k := 3) h3 (flag b.es 2 (by decide)) (by omega) (by omega)
  have h1 := toNat_or_of_dvd (k := 2) h2 (flag b.ts 1 (by decide)) (by omega) (by omega)
  exact toNat_or_of_dvd (k := 1) h1 hil (by omega) (by split <;> decide)

/-- Settles O5: the round trips by the bits of a word and the fields of a bundle, the sum field by field. -/
theorem bundleWordRoundTrip : Obligations.BundleWordRoundTrip :=
  ⟨toWord_ofWord, ofWord_toWord, toNat_toWord⟩

/-! ### The events of one clock cycle -/

theorem op_encode_command (cop : BitVec 2) (carg : Word) :
    (EventWord.op (encode (command cop carg))).toNat = cop.toNat + 3 := by
  rcases command_cases cop carg with ⟨rfl, h⟩ | ⟨rfl, h⟩ | ⟨rfl, h⟩ | ⟨rfl, h⟩ <;> rw [h] <;> simp [encode]

theorem cycleRank_command (cop : BitVec 2) (carg : Word) : cycleRank (command cop carg) = 1 := by
  rcases command_cases cop carg with ⟨-, h⟩ | ⟨-, h⟩ | ⟨-, h⟩ | ⟨-, h⟩ <;> rw [h] <;> rfl

/-- Settles O6, by which of the three strobes are presented. -/
theorem cycleExpansionOrder : Obligations.CycleExpansionOrder := by
  intro b
  refine ⟨fun hrst => by simp [Bundle.expand, hrst], fun hrst => ?_, op_encode_command b.cop b.carg⟩
  have hcommand := cycleRank_command b.cop b.carg
  have hedge : cycleRank (.edge b.il) = 2 := rfl
  have htick : cycleRank (.tick b.il) = 3 := rfl
  rw [Bundle.expand, hrst, if_neg Bool.false_ne_true]
  cases b.cv <;> cases b.es <;> cases b.ts <;> simp [hcommand, hedge, htick]

/-- The bundle of one event expands to the event (R88). -/
theorem expand_asBundle {i : Instr} (h : i ≠ .nop) : (asBundle i).expand = [i] := by
  cases i
  case nop => exact absurd rfl h
  all_goals rfl

/-- Settles O7: each event by its constructor, each word of the table by evaluation. -/
theorem eventAsOwnBundle : Obligations.EventAsOwnBundle :=
  ⟨fun _ => expand_asBundle, by decide⟩

/-! ### The trace text of an event (R95) -/

/-- A decimal digit's character is read as the digit, and is neither a space nor a sign. -/
theorem digitChar_spec {d : Nat} (h : d < 10) :
    digitValue (digitChar d) = some d ∧ digitChar d ≠ ' ' ∧ digitChar d ≠ '-' := by
  interval_cases d <;> decide

theorem readDigit_digitChar (n : Nat) {d : Nat} (h : d < 10) :
    readDigit (some n) (digitChar d) = some (10 * n + d) := by
  simp only [readDigit, (digitChar_spec h).1]

/-- Every character of a numeral is a digit's. -/
theorem mem_decimal {fuel n : Nat} {c : Char} (h : c ∈ decimal fuel n) : ∃ d < 10, c = digitChar d := by
  induction fuel generalizing n with
  | zero => exact ⟨n % 10, Nat.mod_lt _ (by decide), by simpa [decimal] using h⟩
  | succ fuel ih =>
    rw [decimal] at h
    split at h
    case isTrue hn => exact ⟨n, hn, by simpa using h⟩
    case isFalse =>
      rcases List.mem_append.mp h with h | h
      · exact ih h
      · exact ⟨n % 10, Nat.mod_lt _ (by decide), by simpa using h⟩

theorem foldl_readDigit_decimal {fuel n : Nat} (h : n < 10 ^ (fuel + 1)) :
    (decimal fuel n).foldl readDigit (some 0) = some n := by
  induction fuel generalizing n with
  | zero =>
    have hn : n < 10 := h
    simp [decimal, Nat.mod_eq_of_lt hn, readDigit_digitChar 0 hn]
  | succ fuel ih =>
    rw [decimal]
    split
    case isTrue hn => simp [readDigit_digitChar 0 hn]
    case isFalse =>
      rw [List.foldl_append, ih (Nat.div_lt_of_lt_mul (by rwa [← Nat.pow_succ']))]
      simp [readDigit_digitChar (n / 10) (Nat.mod_lt n (by decide)), Nat.div_add_mod]

theorem decimal_ne_nil (fuel n : Nat) : decimal fuel n ≠ [] := by
  cases fuel with
  | zero => simp [decimal]
  | succ fuel => rw [decimal]; split <;> simp

theorem readNat_decimal {fuel n : Nat} (h : n < 10 ^ (fuel + 1)) : readNat (decimal fuel n) = some n := by
  have hread := foldl_readDigit_decimal h
  cases hd : decimal fuel n with
  | nil => exact absurd hd (decimal_ne_nil fuel n)
  | cons c cs => rwa [hd] at hread

/-- Without a leading sign, the operand's text is a numeral up to 32767. -/
theorem readSigned_of_head_ne {cs : List Char} {n : Nat} (h : cs.head? ≠ some '-') (hr : readNat cs = some n)
    (hn : n ≤ 32767) : readSigned cs = some (BitVec.ofNat 16 n) := by
  unfold readSigned
  split
  · simp at h
  · simp [hr, hn]

theorem readSigned_signedText (arg : Word) : readSigned (signedText arg) = some arg := by
  have hlow := BitVec.le_toInt arg
  have hhigh := BitVec.toInt_lt (x := arg)
  have hread : readNat (decimal 4 arg.toInt.natAbs) = some arg.toInt.natAbs := readNat_decimal (by omega)
  unfold signedText
  split
  case isTrue hneg =>
    have hbound : arg.toInt.natAbs ≤ 32768 := by omega
    rw [readSigned, hread]
    simp only [hbound, if_true, Int.ofNat_natAbs_of_nonpos hneg.le, Int.neg_neg, BitVec.ofInt_toInt]
  case isFalse hpos =>
    have hhead : (decimal 4 arg.toInt.natAbs).head? ≠ some '-' := fun h => by
      obtain ⟨d, hd, hc⟩ := mem_decimal (List.mem_of_head? h)
      exact (digitChar_spec hd).2.2 hc.symm
    rw [readSigned_of_head_ne hhead hread (by omega), ← BitVec.ofInt_natCast, Int.natAbs_of_nonneg (Int.not_lt.mp hpos),
      BitVec.ofInt_toInt]

theorem splitAt_of_not_mem {sep : Char} {cs : List Char} (h : sep ∉ cs) : splitAt sep cs = [cs] := by
  induction cs with
  | nil => rfl
  | cons c cs ih =>
    obtain ⟨hc, hcs⟩ := List.ne_and_not_mem_of_not_mem_cons h
    simp [splitAt, Ne.symm hc, ih hcs]

theorem splitAt_append_cons {sep : Char} {xs : List Char} (ys : List Char) (h : sep ∉ xs) :
    splitAt sep (xs ++ sep :: ys) = xs :: splitAt sep ys := by
  induction xs with
  | nil => simp [splitAt]
  | cons c cs ih =>
    obtain ⟨hc, hcs⟩ := List.ne_and_not_mem_of_not_mem_cons h
    simp [splitAt, Ne.symm hc, ih hcs]

theorem space_notMem_signedText (arg : Word) : ' ' ∉ signedText arg := by
  have hdecimal : ' ' ∉ decimal 4 arg.toInt.natAbs := fun h => by
    obtain ⟨d, hd, hc⟩ := mem_decimal h
    exact (digitChar_spec hd).2.1 hc.symm
  unfold signedText
  split <;> simp [hdecimal]

theorem signedText_ne_nil (arg : Word) : signedText arg ≠ [] := by
  unfold signedText
  split <;> simp [decimal_ne_nil]

theorem assembleEvent_setDuty (arg : Word) :
    assembleEvent ("SET_DUTY ".toList ++ signedText arg) = some (.setDuty arg) := by
  have htext : "SET_DUTY ".toList ++ signedText arg = "SET_DUTY".toList ++ ' ' :: signedText arg := rfl
  have hwords : textWords ("SET_DUTY ".toList ++ signedText arg) = ["SET_DUTY".toList, signedText arg] := by
    rw [htext, textWords, splitAt_append_cons _ (by decide), splitAt_of_not_mem (space_notMem_signedText arg)]
    simp [signedText_ne_nil]
  rw [assembleEvent, hwords]
  simp [readWords, readSigned_signedText]

/-- Settles O8: the texts without an operand, or with a level, by evaluation; that of `SET_DUTY` because its numeral is read
back. -/
theorem traceTextAssembles : Obligations.TraceTextAssembles := by
  intro i
  refine ⟨by cases i <;> simp [eventText], fun cs h => ?_⟩
  cases i
  case setDuty arg => cases h; exact assembleEvent_setDuty arg
  case reserved6 => cases h
  case tick lvl => cases lvl <;> cases h <;> decide
  case edge lvl => cases lvl <;> cases h <;> decide
  all_goals cases h; decide

end Sys2Proof.Machine

/-! The family of spec/20_memory.md and spec/30_encoding.md section 3: the step, the sequence of events, the clock cycle, and
what every instruction answers. -/

namespace Sys2Proof.Machine

/-! ### The step (R71, R88, R206) -/

/-- A step is the effect of one instruction, up to the inputs that wait: the event's where one waits, else that of `NOP`. -/
theorem step_next_effect {s t : State} (h : step s = .next t) :
    s.params.legal = true ∧ ∃ i es cs, t = { effect i s with events := es, cycles := cs } := by
  obtain ⟨hl, ⟨w, rest, -, ht⟩ | ⟨b, more, -, -, ht⟩ | ⟨-, -, ht⟩⟩ := step_next_cases s t h
  · exact ⟨hl, decode w, rest, (effect (decode w) s).cycles, ht⟩
  · exact ⟨hl, .nop, (Bundle.ofWord b).expand.map encode, more, ht⟩
  · exact ⟨hl, .nop, s.events, s.cycles, ht⟩

theorem step_of_event {s : State} {w : EventWord} {rest : List EventWord} (h : s.events = w :: rest) :
    step s = exec (decode w) { s with events := rest } := by
  simp only [step, h]

theorem step_of_cycle {s : State} {b : BundleWord} {more : List BundleWord} (he : s.events = [])
    (hc : s.cycles = b :: more) : step s = perform (presentCycle b more) s := by
  simp only [step, he, hc]

theorem step_of_idle {s : State} (he : s.events = []) (hc : s.cycles = []) : step s = execNop s := by
  simp only [step, he, hc]

/-- Settles O9, one clause for each kind of input that can wait. -/
theorem stepPerformsTheDecodedEvent : Obligations.StepPerformsTheDecodedEvent := by
  refine fun s => ⟨fun w rest => step_of_event, fun b more hl he hc => ?_, fun hl he hc => ?_⟩
  · rw [step_of_cycle he hc, perform_of_legal _ s hl]
    rfl
  · exact (step_of_idle he hc).trans (exec_nop hl)

/-- The table decoder reads a number of 20 bits as its event word, and no other (R82). -/
theorem decode_of_decodeTableWord {n w : Nat} {i : Instr} (h : decodeTableWord n w = some i) :
    decode (BitVec.ofNat 20 w) = i := by
  by_cases hw : w < 2 ^ 20 <;> simp only [decodeTableWord, decodeNumber, hw, if_true, if_false] at h
  · exact Option.some.inj h
  · cases h

/-- Settles O10: the word presented stands first among the events that wait. -/
theorem presentedWordIsPerformedNext : Obligations.PresentedWordIsPerformedNext := by
  intro s n w i h
  rw [step_of_event (s := s.withFetchWord n w) rfl, decode_of_decodeTableWord h]
  rfl

theorem step_of_not_legal {s : State} (h : s.params.legal = false) : step s = .refused .illegalParameters := by
  cases he : s.events with
  | cons w rest => rw [step_of_event he, exec_eq_perform]; exact perform_of_not_legal _ _ h
  | nil =>
    cases hc : s.cycles with
    | cons b more => rw [step_of_cycle he hc]; exact perform_of_not_legal _ _ h
    | nil => rw [step_of_idle he hc]; exact perform_of_not_legal _ _ h

/-- Settles O16: no effect writes the parameters, and `duty_resolution` is read off them. -/
theorem stepsKeepTheParameters : Obligations.StepsKeepTheParameters := by
  intro s t h
  obtain ⟨-, i, es, cs, rfl⟩ := step_next_effect h
  have hp : (effect i s).params = s.params := (effect_inputs i s).1
  exact ⟨hp, congrArg (fun p : Params => BitVec.ofNat 16 p.dutyResolution) hp⟩

/-! ### What every instruction answers (R13, R65, R190) -/

theorem exec_of_legal (i : Instr) {s : State} (h : s.params.legal = true) : exec i s = .next (effect i s) :=
  (exec_next_iff i s _).mpr ⟨h, rfl⟩

theorem exec_of_not_legal (i : Instr) {s : State} (h : s.params.legal = false) :
    exec i s = .refused .illegalParameters := by
  rw [exec_eq_perform, perform_of_not_legal _ _ h]

/-- Settles O14: with legal parameters the answer is the effect. -/
theorem everyOperationCompletes : Obligations.EveryOperationCompletes :=
  fun i _ hl => ⟨_, exec_of_legal i hl⟩

/-- Settles O15: the ten constraints are `legal` written out, and both `exec` and `step` test it first. -/
theorem illegalParametersAreRefused : Obligations.IllegalParametersAreRefused := by
  intro s h
  rw [← legal_iff, Bool.not_eq_true] at h
  exact ⟨fun i => exec_of_not_legal i h, step_of_not_legal h⟩

/-- Settles O22: the effect of the reserved code is that of `NOP`, and both codes stand for it. -/
theorem reservedCodeActsAsNop : Obligations.ReservedCodeActsAsNop := by
  intro s hl
  have hexec : exec .reserved6 s = .next s := exec_of_legal .reserved6 hl
  refine ⟨hexec, fun w hw => ?_, fun _ => hexec⟩
  have hdecode : decode w = .reserved6 := by simp [decode, hw]
  rw [hdecode, hexec]

/-- A cycle under `rst` is one `HWRESET`, whatever its other ports hold (R88). -/
theorem clock_of_rst {b : Bundle} (h : b.rst = true) (s : State) : clock b s = exec .hwreset s := by
  have hexpand : b.expand = [.hwreset] := by simp [Bundle.expand, h]
  rw [clock, hexpand]
  exact run_singleton .hwreset s

/-- Settles O26: the effect of `HWRESET` writes out the reset column, which is the reset state but for the inputs. -/
theorem hardwareResetGivesTheResetState : Obligations.HardwareResetGivesTheResetState :=
  ⟨rfl, fun _ hl => ⟨exec_of_legal .hwreset hl, exec_of_legal .hwreset hl, fun _ hb => clock_of_rst hb _⟩⟩

theorem run_cons_of_legal (i : Instr) (is : List Instr) {s : State} (h : s.params.legal = true) :
    run (i :: is) s = run is (effect i s) := by
  simp only [run, exec_of_legal i h]

theorem run_cons_of_not_legal (i : Instr) (is : List Instr) {s : State} (h : s.params.legal = false) :
    run (i :: is) s = .refused .illegalParameters := by
  simp only [run, exec_of_not_legal i h]

/-- An instruction whose effect is idempotent may be performed once or twice. -/
theorem run_twice {i : Instr} {s : State} (h : effect i (effect i s) = effect i s) : run [i, i] s = run [i] s := by
  cases hl : s.params.legal
  · rw [run_cons_of_not_legal i _ hl, run_cons_of_not_legal i _ hl]
  · rw [run_cons_of_legal i _ hl, run_cons_of_legal i _ hl, run_cons_of_legal i _ (by rwa [(effect_inputs i s).1]), h]

/-- Settles O27: both effects write values that do not depend on the registers they write. -/
theorem foregroundWritesAreIdempotent : Obligations.ForegroundWritesAreIdempotent :=
  fun _ _ => ⟨run_twice rfl, run_twice rfl⟩

/-- Settles O12: a cycle without a strobe presents no event. -/
theorem idleCycleIsOneNop : Obligations.IdleCycleIsOneNop :=
  fun _ s hrst hcv hes hts => clock_of_expand_eq_nil (expand_eq_nil_of_no_strobe hrst hcv hes hts) s

/-! ### The steps of one clock cycle (R71, R88) -/

/-- With legal parameters a clock cycle is the sequence of its events, an idle one the empty sequence. -/
theorem clock_of_legal (b : Bundle) {s : State} (h : s.params.legal = true) : clock b s = run b.expand s := by
  cases hx : b.expand with
  | nil => rw [clock_of_expand_eq_nil hx, exec_nop h, run]
  | cons i rest => simp only [clock, hx]

theorem clock_of_not_legal (b : Bundle) {s : State} (h : s.params.legal = false) :
    clock b s = .refused .illegalParameters := by
  cases hx : b.expand with
  | nil => rw [clock_of_expand_eq_nil hx, exec_of_not_legal _ h]
  | cons i rest => simp only [clock, hx, run_cons_of_not_legal i rest h]

/-- Performing the events that wait, one step each, is the sequence of events. -/
theorem core_run_events (is : List Instr) {s : State} (h : s.events = is.map encode) :
    Sys2Proof.core.run is.length s = run is { s with events := [] } := by
  induction is generalizing s with
  | nil =>
    cases s
    cases h
    rfl
  | cons i rest ih =>
    have hstep : step s = exec i { s with events := rest.map encode } := by
      rw [step_of_event h, decodeEncodeAgree i]
    cases hl : s.params.legal
    · rw [run_cons_of_not_legal i rest (by exact hl)]
      exact core_run_refused _ _ _ (hstep.trans (exec_of_not_legal i hl))
    · have hevents := (effect_inputs i { s with events := rest.map encode }).2.1
      have hnoEvents : { effect i { s with events := rest.map encode } with events := [] } =
          effect i { s with events := [] } := by
        rw [effect_withInputs i s (rest.map encode) s.cycles, effect_withInputs i s [] s.cycles]
      rw [run_cons_of_legal i rest (by exact hl), ← hnoEvents, ← ih hevents]
      exact core_run_next _ _ _ (hstep.trans (exec_of_legal i hl))

/-- Settles O11: the first step presents the events of the cycle, the others perform them in order. -/
theorem stepsRefineTheClockCycle : Obligations.StepsRefineTheClockCycle := by
  intro s b more he hc
  have hstep := step_of_cycle he hc
  rw [Nat.add_comm]
  cases hl : s.params.legal
  · rw [clock_of_not_legal _ (by exact hl)]
    exact core_run_refused _ _ _ (hstep.trans (perform_of_not_legal _ s hl))
  · have hpresent : { presentCycle b more s with events := [] } = { s with cycles := more } := by
      cases s
      cases he
      rfl
    refine (core_run_next _ _ _ (hstep.trans (perform_of_legal _ s hl))).trans ((core_run_events _ rfl).trans ?_)
    rw [hpresent, clock_of_legal _ (by exact hl)]

/-! ### The ports cycle by cycle (R76, R81) -/

/-- Settles O13, by induction on the earlier cycles: each adds its own ports in front. -/
theorem portsShowTheEarlierCycles : Obligations.PortsShowTheEarlierCycles := by
  intro bs b s t h
  induction bs generalizing s with
  | nil =>
    cases h
    cases hb : clock b t <;> simp [waveform, hb, State.ports, now]
  | cons c rest ih =>
    cases hc : clock c s with
    | next u =>
      simp only [runCycles, hc] at h
      simp only [List.cons_append, waveform, hc, ih u h]
    | fault r => simp [runCycles, hc] at h
    | refused r => simp [runCycles, hc] at h

/-! ### `prev_input_state` (R36) -/

/-- An instruction carries a different previous sample along or overwrites it; nothing else comes out differently. -/
theorem effect_withPrevInputState (i : Instr) (s : State) (l : Level) :
    ∃ l', effect i { s with prevInputState := l } = { effect i s with prevInputState := l' } := by
  cases i
  case tick lvl => exact ⟨_, ticked_withPrevInputState lvl s l⟩
  case edge lvl =>
    refine ⟨l, ?_⟩
    rcases edgeDetected_cases lvl s with ⟨hs, rfl, -⟩ | ⟨hs, he⟩
    · simp only [effect, edgeDetected_opens s hs, edgeDetected_opens { s with prevInputState := l } hs]
    · simp only [effect, he, edgeDetected_ignored lvl { s with prevInputState := l } hs]
  case resetCal | hwreset => exact ⟨.low, rfl⟩
  all_goals exact ⟨l, rfl⟩

/-- Settles O18, by induction on the sequence. -/
theorem previousInputInfluencesNothing : Obligations.PreviousInputInfluencesNothing := by
  intro is s t l h
  induction is generalizing s l with
  | nil => cases h; exact ⟨l, rfl⟩
  | cons i rest ih =>
    obtain ⟨hl, hr⟩ := (run_cons_next_iff i rest s t).mp h
    obtain ⟨l', hi⟩ := effect_withPrevInputState i s l
    obtain ⟨l'', ht⟩ := ih (effect i s) l' hr
    exact ⟨l'', (run_cons_next_iff i rest _ _).mpr ⟨hl, hi ▸ ht⟩⟩

/-! ### DIAG (R174) -/

/-- The frequency of a reference that is not 0: neither the 17-bit divisor nor the 16-bit quotient loses a bit. -/
theorem diagFreq_toNat {s : State} (hdone : s.calibDone = true) (hfixed : s.fixedLowTicks ≠ 0#16) :
    (diagFreq s).toNat = 10000 / (2 * s.fixedLowTicks.toNat) := by
  have hlt : s.fixedLowTicks.toNat < 65536 := s.fixedLowTicks.isLt
  have hwide : (s.fixedLowTicks.setWidth 17).toNat = s.fixedLowTicks.toNat := BitVec.toNat_setWidth_of_le (by decide)
  have hdivisor : (BitVec.ofNat 17 diagFreqHalf * s.fixedLowTicks.setWidth 17).toNat = 2 * s.fixedLowTicks.toNat := by
    rw [BitVec.toNat_mul, hwide]
    exact Nat.mod_eq_of_lt (by change 2 * _ < 131072; omega)
  have hquotient : 10000 / (2 * s.fixedLowTicks.toNat) ≤ 10000 := Nat.div_le_self _ _
  rw [diagFreq, if_pos ⟨hdone, hfixed⟩, BitVec.toNat_setWidth, BitVec.toNat_udiv, hdivisor]
  exact Nat.mod_eq_of_lt (Nat.lt_of_le_of_lt hquotient (by decide))

/-- No frequency without a reference, and none for a reference of 0 (D19). -/
theorem diagFreq_eq_zero {s : State} (h : s.calibDone = false ∨ s.fixedLowTicks = 0#16) : diagFreq s = 0#16 := by
  rw [diagFreq, if_neg]
  rintro ⟨hdone, hfixed⟩
  rcases h with h | h
  · rw [hdone] at h
    cases h
  · exact hfixed h

/-- Settles O23, by whether there is a reference that is not 0. -/
theorem diagReturnsTheReference : Obligations.DiagReturnsTheReference := by
  intro s hl
  refine ⟨exec_of_legal .diag hl, diagResult s, rfl, rfl, ?_⟩
  cases hdone : s.calibDone
  · simp [diagResult, hdone, diagFreq_eq_zero (.inl hdone)]
  · by_cases hfixed : s.fixedLowTicks = 0#16
    · simp [diagResult, hdone, hfixed, diagFreq_eq_zero (.inr hfixed)]
    · have hpos : 0 < s.fixedLowTicks.toNat := Nat.pos_of_ne_zero fun h => hfixed (BitVec.eq_of_toNat_eq h)
      have hbound : 10000 / (2 * s.fixedLowTicks.toNat) ≤ 5000 := Nat.div_le_of_le_mul (by omega)
      simpa [diagResult, hdone, hfixed, diagFreq_toNat hdone hfixed] using hbound

end Sys2Proof.Machine

/-! The families of spec/41_pulse_window_fsm.md, spec/42_calibration.md and spec/43_duty_output.md: a pending window and its
confirmation (R123, R124), the on-time (R153), the output (R150 to R156) and the window closes (R127, R141, R144). -/

namespace Sys2Proof.Machine

/-! ### The on-time (R153) -/

/-- The product of two 16-bit values fits in 32 bits. -/
theorem onTimeProduct_toNat (est duty : Word) : (onTimeProduct est duty).toNat = est.toNat * duty.toNat := by
  have hest : (est.setWidth 32).toNat = est.toNat := BitVec.toNat_setWidth_of_le (by decide)
  have hduty : (duty.setWidth 32).toNat = duty.toNat := BitVec.toNat_setWidth_of_le (by decide)
  have hfits : est.toNat * duty.toNat ≤ 65535 * 65535 :=
    Nat.mul_le_mul (Nat.le_of_lt_succ est.isLt) (Nat.le_of_lt_succ duty.isLt)
  rw [onTimeProduct, BitVec.toNat_mul, hest, hduty]
  exact Nat.mod_eq_of_lt (by omega)

/-- The rounded quotient is exact in 32 bits for every legal resolution (R153, D10). -/
theorem onTimeQuotient_toNat {p : Params} (hl : p.legal = true) (est duty : Word) :
    (onTimeQuotient p est duty).toNat = (est.toNat * duty.toNat + p.dutyResolution / 2) / p.dutyResolution := by
  have hres := dutyResolution_lt_of_legal hl
  have hfits : est.toNat * duty.toNat ≤ 65535 * 65535 :=
    Nat.mul_le_mul (Nat.le_of_lt_succ est.isLt) (Nat.le_of_lt_succ duty.isLt)
  have hhalf : (BitVec.ofNat 32 (p.dutyResolution / 2)).toNat = p.dutyResolution / 2 :=
    Nat.mod_eq_of_lt (by omega)
  have hdivisor : (BitVec.ofNat 32 p.dutyResolution).toNat = p.dutyResolution := Nat.mod_eq_of_lt (by omega)
  rw [onTimeQuotient, BitVec.toNat_udiv, BitVec.toNat_add_of_lt, onTimeProduct_toNat, hhalf, hdivisor]
  rw [onTimeProduct_toNat, hhalf]
  omega

/-- A duty below the resolution takes at most the whole estimate. -/
theorem roundedQuotient_le {e d r : Nat} (h : d < r) : (e * d + r / 2) / r ≤ e := by
  have hmul : e * d ≤ e * r := Nat.mul_le_mul_left e h.le
  rw [← Nat.lt_succ_iff, Nat.div_lt_iff_lt_mul (by omega), Nat.succ_mul]
  omega

/-- The on-time as a number, for a duty that is not forced high. -/
theorem onTime_toNat {p : Params} (hl : p.legal = true) {est duty : Word} (hduty : duty.toNat < p.dutyResolution) :
    (onTime p est duty).toNat = max ((est.toNat * duty.toNat + p.dutyResolution / 2) / p.dutyResolution) 1 := by
  have hquotient := onTimeQuotient_toNat hl est duty
  have hle := roundedQuotient_le (e := est.toNat) hduty
  have hest : est.toNat < 65536 := est.isLt
  unfold onTime
  split
  case isTrue h =>
    rw [h] at hquotient
    rw [← hquotient]
    rfl
  case isFalse h =>
    have hpos : (onTimeQuotient p est duty).toNat ≠ 0 := fun h0 => h (BitVec.eq_of_toNat_eq h0)
    rw [BitVec.toNat_setWidth, hquotient, Nat.mod_eq_of_lt (by omega)]
    omega

/-- Settles O34: the value by the exact quotient, its bounds by the size of the duty. -/
theorem onTimeIsTheRoundedQuotient : Obligations.OnTimeIsTheRoundedQuotient := by
  intro p est duty hl _ hduty
  have hvalue := onTime_toNat hl (est := est) hduty
  have hle := roundedQuotient_le (e := est.toNat) hduty
  exact ⟨hvalue, by omega, by omega⟩

/-- Settles O35: half the resolution lies between nothing and one less than the resolution, so the rounded quotient lies
between the floor and the ceiling. -/
theorem onTimeIsWithinOneOfTheQuotient : Obligations.OnTimeIsWithinOneOfTheQuotient := by
  intro p est duty hl _ hduty
  have hfloor : est.toNat * duty.toNat / p.dutyResolution ≤
      (est.toNat * duty.toNat + p.dutyResolution / 2) / p.dutyResolution :=
    Nat.div_le_div_right (Nat.le_add_right _ _)
  have hceiling : (est.toNat * duty.toNat + p.dutyResolution / 2) / p.dutyResolution ≤
      (est.toNat * duty.toNat + p.dutyResolution - 1) / p.dutyResolution :=
    Nat.div_le_div_right (by omega)
  rw [onTime_toNat hl hduty]
  exact ⟨hfloor.trans (le_max_left _ _), max_le_max_right 1 hceiling⟩

/-! ### A pending window and its confirmation (R123, R124, R150 to R154) -/

/-- Settles O31, by the branch of `TICK 0` below the threshold. -/
theorem pendingWindowWaitsForTheThreshold : Obligations.PendingWindowWaitsForTheThreshold :=
  fun s hl hs hc => (exec_next_iff _ s _).mpr ⟨hl, ticked_waits s hs hc⟩

/-- Settles O32, by the branch of `TICK 0` at the threshold. -/
theorem thresholdConfirmsTheWindow : Obligations.ThresholdConfirmsTheWindow :=
  fun s hl hs hc => ⟨_, (exec_next_iff _ s _).mpr ⟨hl, ticked_confirms s hs hc⟩, rfl⟩

theorem mode0Of_iff (duty : Word) : mode0Of duty = true ↔ duty = 0#16 := decide_eq_true_iff

theorem mode100Of_iff (p : Params) (duty : Word) : mode100Of p duty = true ↔ p.dutyResolution ≤ duty.toNat :=
  decide_eq_true_iff

/-- A window of mode 0 keeps the on-time of an earlier one (D18). -/
theorem confirmedTicks_of_mode0 {s : State} (h : mode0Of s.dutyPercent = true) : confirmedTicks s = s.highTicks := by
  rw [confirmedTicks, if_pos h]

/-- So does a window of mode 100 (D18). -/
theorem confirmedTicks_of_mode100 {s : State} (h : mode100Of s.params s.dutyPercent = true) :
    confirmedTicks s = s.highTicks := by
  rw [confirmedTicks, if_pos h, ite_self]

theorem confirmedTicks_of_not_forced {s : State} (h0 : mode0Of s.dutyPercent = false)
    (h100 : mode100Of s.params s.dutyPercent = false) :
    confirmedTicks s = onTime s.params (widthEstimate s) s.dutyPercent := by
  simp only [confirmedTicks, h0, h100, Bool.false_eq_true, if_false]

theorem confirmedLevel_eq_low_iff (duty : Word) : confirmedLevel duty = .low ↔ mode0Of duty = true := by
  cases h : mode0Of duty <;> simp [confirmedLevel, h]

theorem confirmedLevel_eq_high_iff (duty : Word) : confirmedLevel duty = .high ↔ mode0Of duty = false := by
  cases h : mode0Of duty <;> simp [confirmedLevel, h]

/-- A `TICK 0` that leaves `LOW_PENDING` for `LOW_ACTIVE` has found the threshold reached. -/
theorem threshold_of_confirmed {s : State} (hs : s.state = .lowPending) (h : (ticked .low s).state = .lowActive) :
    s.params.confirmTicks ≤ (elapsed (s.tick + 1#16) s.pendingStartTick).toNat := by
  by_contra hc
  rw [ticked_waits s hs (Nat.not_le.mp hc)] at h
  exact absurd (hs.symm.trans h) (by decide)

/-- Settles O33: the registers of the output side at a confirmation, by the two mode flags, and the estimate by its
priority. -/
theorem confirmationSetsTheOutput : Obligations.ConfirmationSetsTheOutput := by
  intro s t hs h hactive
  obtain ⟨-, rfl⟩ := (exec_next_iff _ s t).mp h
  rw [effect, ticked_confirms s hs (threshold_of_confirmed hs hactive)]
  refine ⟨rfl, mode0Of_iff _, mode100Of_iff _ _,
    fun h0 => ⟨(confirmedLevel_eq_low_iff _).mpr h0, confirmedTicks_of_mode0 h0⟩, (confirmedLevel_eq_high_iff _).mpr,
    fun _ h100 => confirmedTicks_of_mode100 h100, fun h0 h100 => ?_⟩
  have hticks := confirmedTicks_of_not_forced h0 h100
  refine ⟨fun hdone => ?_, fun hdone hlast => ?_, fun hdone hlast => ?_⟩
  · simpa [widthEstimate, hdone] using hticks
  · simpa [widthEstimate, hdone, hlast] using hticks
  · simpa [widthEstimate, hdone, hlast] using hticks

/-! ### The output in a confirmed window (R126, R155, R156) -/

theorem onTimeReached_iff (s : State) (t : Word) :
    onTimeReached s t = true ↔ s.highTicks.toNat ≤ (elapsed t s.dutyStartTick).toNat := decide_eq_true_iff

/-- Settles O36: the branch of `TICK 0` in `LOW_ACTIVE` writes the level of `SHAPE`, with the end of the on-time compared as
numbers. -/
theorem lowSampleShapesTheOutput : Obligations.LowSampleShapesTheOutput := by
  intro s hl hs
  refine (exec_next_iff _ s _).mpr ⟨hl, ?_⟩
  simp only [effect, ticked_shapes s hs, shapedLevel, onTimeReached_iff]

/-! ### The window closes (R127, R141, R142, R144) -/

/-- Settles O37: below the floor the close does not reach the calibration. -/
theorem closeBelowTheFloorDiscards : Obligations.CloseBelowTheFloorDiscards := by
  intro s hl hs hfloor
  have hbelow := mt (aboveFloor_iff s.params (elapsed (s.tick + 1#16) s.lowStartTick)).mp (Nat.not_le.mpr hfloor)
  exact (exec_next_iff _ s _).mpr ⟨hl, (ticked_closes s hs).trans (if_neg hbelow)⟩

/-- Settles O38: outside the band the calibration takes the fallback estimate alone. -/
theorem closeOutOfBandKeepsTheBatch : Obligations.CloseOutOfBandKeepsTheBatch := by
  intro s hl hs hfloor hout
  have hband : inBand s.params (elapsed (s.tick + 1#16) s.lowStartTick) = false :=
    decide_eq_false (by omega)
  refine (exec_next_iff _ s _).mpr ⟨hl, (ticked_accepts hs hfloor).trans ?_⟩
  rw [calibrate_of_not_inBand _ (closeOutput (advance s)) hband]
  rfl

/-! ### The bounds of a batch (R43, R144) -/

/-- What is known of the sum of `n + 1` samples of which `lo` is the smallest and `hi` the largest. -/
def SampleBounds (n lo hi sum : Nat) : Prop := lo ≤ hi ∧ hi + n * lo ≤ sum ∧ sum ≤ lo + n * hi

theorem sampleBounds_singleton (w : Nat) : SampleBounds 0 w w w := by
  simp [SampleBounds]

/-- One more sample. -/
theorem SampleBounds.feed {n lo hi sum : Nat} (h : SampleBounds n lo hi sum) (w : Nat) :
    SampleBounds (n + 1) (min lo w) (max hi w) (sum + w) := by
  obtain ⟨hle, hlo, hhi⟩ := h
  have hmin : n * min lo w ≤ n * lo := Nat.mul_le_mul_left n (min_le_left lo w)
  have hmax : n * hi ≤ n * max hi w := Nat.mul_le_mul_left n (le_max_left hi w)
  refine ⟨by omega, ?_, ?_⟩ <;> rw [Nat.succ_mul] <;> omega

/-- The sum of a batch lies between its count times the minimum and its count times the maximum. -/
theorem SampleBounds.sum_bounds {n lo hi sum : Nat} (h : SampleBounds n lo hi sum) :
    (n + 1) * lo ≤ sum ∧ sum ≤ (n + 1) * hi := by
  obtain ⟨hle, hlo, hhi⟩ := h
  constructor <;> rw [Nat.succ_mul] <;> omega

/-- With its minimum and maximum taken out, the mean of the `n` others lies between the two. -/
theorem SampleBounds.trimmed_bounds {n lo hi sum : Nat} (h : SampleBounds (n + 1) lo hi sum) (hn : 0 < n) :
    lo ≤ (sum - lo - hi) / n ∧ (sum - lo - hi) / n ≤ hi := by
  obtain ⟨hle, hlo, hhi⟩ := h
  rw [Nat.succ_mul] at hlo hhi
  exact ⟨(Nat.le_div_iff_mul_le hn).mpr (by rw [Nat.mul_comm]; omega), Nat.div_le_of_le_mul (by omega)⟩

/-- The batch registers hold `n` samples: the count and, from the bounds by the minimum and the maximum, the sum. -/
def State.HoldsSamples (s : State) : Nat → Prop
  | 0 => s.sampleCnt = 0#8 ∧ s.sumLow = 0#32
  | n + 1 => s.sampleCnt.toNat = n + 1 ∧ SampleBounds n s.minLow.toNat s.maxLow.toNat s.sumLow.toNat

theorem State.HoldsSamples.count {s : State} {n : Nat} (h : s.HoldsSamples n) : s.sampleCnt.toNat = n := by
  cases n with
  | zero => rw [h.1]; rfl
  | succ n => exact h.1

/-- A batch that meets the invariant holds as many samples as it counts (R43). -/
theorem holdsSamples_of_batchInv {s : State} (h : s.BatchInv) : s.HoldsSamples s.sampleCnt.toNat := by
  obtain ⟨-, hempty, hfilled, -⟩ := h
  cases hn : s.sampleCnt.toNat with
  | zero =>
    have h0 : s.sampleCnt = 0#8 := BitVec.eq_of_toNat_eq hn
    exact ⟨h0, hempty h0⟩
  | succ n =>
    obtain ⟨-, hle, -, -, -, hlo, hhi⟩ := hfilled (by omega)
    rw [hn] at hlo hhi
    exact ⟨hn, hle, hlo, hhi⟩

/-- The sum of a batch is at most that many samples of the largest register value. -/
theorem State.HoldsSamples.sum_le {s : State} {n : Nat} (h : s.HoldsSamples n) : s.sumLow.toNat ≤ n * 65535 := by
  cases n with
  | zero => rw [h.2]; exact Nat.zero_le _
  | succ n => exact h.2.sum_bounds.2.trans (Nat.mul_le_mul_left _ (Nat.le_of_lt_succ s.maxLow.isLt))

/-- The 32-bit sum of a batch with one more sample does not wrap. -/
theorem State.HoldsSamples.sumLow_add_toNat {s : State} {n : Nat} (h : s.HoldsSamples n) (w : Word) :
    (s.sumLow + w.setWidth 32).toNat = s.sumLow.toNat + w.toNat := by
  have hsum := h.sum_le
  have hcount : n < 256 := h.count ▸ s.sampleCnt.isLt
  have hw : w.toNat < 65536 := w.isLt
  have hwide : (w.setWidth 32).toNat = w.toNat := BitVec.toNat_setWidth_of_le (by decide)
  rw [BitVec.toNat_add_of_lt (by rw [hwide]; omega), hwide]

/-- Feeding a sample to a batch that has room for it (R143). -/
theorem State.HoldsSamples.feedBatch {s : State} {n : Nat} (h : s.HoldsSamples n) (hn : n < 255) (w : Word) :
    (feedBatch w s).HoldsSamples (n + 1) := by
  have hcount : (s.sampleCnt + 1#8).toNat = n + 1 := by
    rw [BitVec.toNat_add_of_lt (by rw [h.count]; exact Nat.succ_lt_succ hn), h.count]
    rfl
  refine ⟨hcount, ?_⟩
  simp only [feedBatch_minLow, feedBatch_maxLow, feedBatch_sumLow, batchMin_toNat, batchMax_toNat, h.sumLow_add_toNat]
  cases n with
  | zero =>
    obtain ⟨h0, hsum⟩ := h
    simpa [h0, hsum] using sampleBounds_singleton w.toNat
  | succ n =>
    have h0 : s.sampleCnt ≠ 0#8 := fun h0 => by simpa [h0] using h.count
    simpa [h0] using h.2.feed w.toNat

/-- The trimmed mean of a full batch as a number: neither subtraction wraps, and the quotient fits in 16 bits (R144). -/
theorem State.HoldsSamples.trimmedMean_toNat {s : State} {n : Nat} (h : s.HoldsSamples (n + 2)) (hn : 0 < n)
    (hfull : s.params.batchN = n + 2) :
    (trimmedMean s).toNat = (s.sumLow.toNat - s.minLow.toNat - s.maxLow.toNat) / n := by
  obtain ⟨hcount, hbounds⟩ := h
  have hn255 : n + 2 < 256 := hcount ▸ s.sampleCnt.isLt
  have hmean := (hbounds.trimmed_bounds hn).2
  obtain ⟨-, hlo, -⟩ := hbounds
  rw [Nat.succ_mul] at hlo
  have hmin : (s.minLow.setWidth 32).toNat = s.minLow.toNat := BitVec.toNat_setWidth_of_le (by decide)
  have hmax : (s.maxLow.setWidth 32).toNat = s.maxLow.toNat := BitVec.toNat_setWidth_of_le (by decide)
  have hmaxlt : s.maxLow.toNat < 65536 := s.maxLow.isLt
  have hsub : (s.sumLow - s.minLow.setWidth 32).toNat = s.sumLow.toNat - s.minLow.toNat := by
    rw [BitVec.toNat_sub_of_le (by rw [BitVec.le_def, hmin]; omega), hmin]
  have hdivisor : (BitVec.ofNat 32 (s.params.batchN - 2)).toNat = n := by
    rw [hfull]
    exact Nat.mod_eq_of_lt (by omega)
  rw [trimmedMean, BitVec.toNat_setWidth, BitVec.toNat_udiv, hdivisor,
    BitVec.toNat_sub_of_le (by rw [BitVec.le_def, hsub, hmax]; omega), hsub, hmax]
  exact Nat.mod_eq_of_lt (by omega)

/-- A close in the band that completes the batch takes its trimmed mean and empties it. -/
theorem ticked_consumes {s : State} (hs : s.state = .lowActive)
    (hfloor : s.params.minLowTicks ≤ (elapsed (s.tick + 1#16) s.lowStartTick).toNat)
    (hband : inBand s.params (elapsed (s.tick + 1#16) s.lowStartTick) = true)
    (hn : (s.sampleCnt + 1#8).toNat = s.params.batchN) :
    ticked .high s =
      { s with
        tick := s.tick + 1#16
        state := .idleHigh
        outLevel := .low
        mode0 := false
        mode100 := false
        prevInputState := .high
        lastLowTicks := elapsed (s.tick + 1#16) s.lowStartTick
        fixedLowTicks := trimmedMean (feedBatch (elapsed (s.tick + 1#16) s.lowStartTick) s)
        calibDone := true
        sumLow := 0#32
        sampleCnt := 0#8
        minLow := infSentinel
        maxLow := 0#16 } := by
  rw [ticked_accepts hs hfloor, calibrate_consumes _ (closeOutput (advance s)) hband hn]
  rfl

/-- Settles O40: the close consumes the batch, whose trimmed mean is exact because the batch holds `BATCH_N` samples. -/
theorem closeCompletingTheBatchCalibrates : Obligations.CloseCompletingTheBatchCalibrates := by
  intro s w hl hb hs hw hfloor hmin hmax hfull
  obtain ⟨-, -, -, -, hthree, hbatch, -⟩ := (legal_iff s.params).mp hl
  obtain ⟨n, hn⟩ : ∃ n, s.params.batchN = n + 2 := ⟨s.params.batchN - 2, by omega⟩
  have hcount : s.sampleCnt.toNat = n + 1 := by omega
  have h0 : s.sampleCnt ≠ 0#8 := fun h0 => by simp [h0] at hcount
  have hfed : (feedBatch w s).HoldsSamples (n + 2) := by
    have h := (holdsSamples_of_batchInv hb).feedBatch (by omega) w
    rwa [hcount] at h
  have hmean := hfed.trimmedMean_toNat (by omega) hn
  refine ⟨trimmedMean (feedBatch w s), ?_, (exec_next_iff _ s _).mpr ⟨hl, ?_⟩⟩
  · simpa [batchMin_toNat, batchMax_toNat, sumLow_add_toNat hb, h0, hn] using hmean
  · subst hw
    exact ticked_consumes hs hfloor ((inBand_iff _ _).mpr ⟨hmin, hmax⟩) (by rw [sampleCnt_succ_toNat hl hb]; exact hfull)

end Sys2Proof.Machine

/-! The invariants of spec/10_state.md section 7, spec/41_pulse_window_fsm.md section 4 and spec/43_duty_output.md section 4:
each holds after reset and is kept by the effect of every instruction, hence by every step. -/

namespace Sys2Proof.Machine

/-! ### The batch invariant (R43, R144) -/

/-- An empty batch meets the invariant where its reference does. -/
theorem batchInv_of_empty {s : State} (hl : s.params.legal = true) (hcount : s.sampleCnt = 0#8) (hsum : s.sumLow = 0#32)
    (hreference : s.calibDone = true →
      s.params.periodMinTicks ≤ s.fixedLowTicks.toNat ∧ s.fixedLowTicks.toNat ≤ s.params.periodMaxTicks) :
    s.BatchInv := by
  obtain ⟨-, -, -, -, hthree, -⟩ := (legal_iff s.params).mp hl
  have h0 : s.sampleCnt.toNat = 0 := by rw [hcount]; rfl
  exact ⟨by omega, fun _ => hsum, fun hpos => by omega, hreference⟩

/-- A batch of samples in the band, short of `BATCH_N`, meets the invariant where its reference does. -/
theorem State.HoldsSamples.batchInv {s : State} {n : Nat} (h : s.HoldsSamples (n + 1)) (hshort : n + 1 < s.params.batchN)
    (hmin : s.params.periodMinTicks ≤ s.minLow.toNat) (hmax : s.maxLow.toNat ≤ s.params.periodMaxTicks)
    (hreference : s.calibDone = true →
      s.params.periodMinTicks ≤ s.fixedLowTicks.toNat ∧ s.fixedLowTicks.toNat ≤ s.params.periodMaxTicks) :
    s.BatchInv := by
  obtain ⟨hcount, hbounds⟩ := h
  obtain ⟨hlo, hhi⟩ := hbounds.sum_bounds
  obtain ⟨hle, htrimLo, htrimHi⟩ := hbounds
  have hempty : s.sampleCnt = 0#8 → s.sumLow = 0#32 := fun h0 => by simp [h0] at hcount
  refine ⟨by rwa [hcount], hempty, fun _ => ⟨hmin, hle, hmax, ?_⟩, hreference⟩
  rw [hcount]
  exact ⟨hlo, hhi, htrimLo, htrimHi⟩

/-- A sample in the band keeps the minimum and the maximum of the batch in the band. -/
theorem feedBatch_inBand {s : State} (hb : s.BatchInv) {w : Word} (hband : inBand s.params w = true) :
    s.params.periodMinTicks ≤ (batchMin s w).toNat ∧ (batchMax s w).toNat ≤ s.params.periodMaxTicks := by
  obtain ⟨hlo, hhi⟩ := (inBand_iff _ _).mp hband
  obtain ⟨-, -, hfilled, -⟩ := hb
  rw [batchMin_toNat, batchMax_toNat]
  split
  case isTrue => exact ⟨hlo, hhi⟩
  case isFalse h0 =>
    obtain ⟨hmin, -, hmax, -⟩ := hfilled (Nat.pos_of_ne_zero fun h => h0 (BitVec.eq_of_toNat_eq h))
    exact ⟨le_min hmin hlo, max_le hmax hhi⟩

/-- The calibration keeps the batch invariant: a full batch gives a reference between its minimum and its maximum. -/
theorem calibrate_batchInv {s : State} (hl : s.params.legal = true) (hb : s.BatchInv) (w : Word) :
    (calibrate w s).BatchInv := by
  obtain ⟨-, -, -, -, hthree, hbatch, -⟩ := (legal_iff s.params).mp hl
  obtain ⟨hshort, -, -, hreference⟩ := id hb
  have hfed := (holdsSamples_of_batchInv hb).feedBatch (by omega) w
  cases hband : inBand s.params w
  · rw [calibrate_of_not_inBand w s hband]
    exact hb
  · obtain ⟨hmin, hmax⟩ := feedBatch_inBand hb hband
    by_cases hn : (s.sampleCnt + 1#8).toNat = s.params.batchN
    · rw [calibrate_consumes w s hband hn]
      rw [sampleCnt_succ_toNat hl hb] at hn
      obtain ⟨n, hsize⟩ : ∃ n, s.params.batchN = n + 2 := ⟨s.params.batchN - 2, by omega⟩
      rw [hn, hsize] at hfed
      obtain ⟨hlo, hhi⟩ := hfed.2.trimmed_bounds (by omega)
      rw [← hfed.trimmedMean_toNat (by omega) hsize] at hlo hhi
      exact batchInv_of_empty hl rfl rfl fun _ => ⟨hmin.trans hlo, hhi.trans hmax⟩
    · rw [calibrate_feeds w s hband hn]
      rw [sampleCnt_succ_toNat hl hb] at hn
      exact hfed.batchInv (by change _ < s.params.batchN; omega) hmin hmax hreference

theorem ticked_batchInv {s : State} (hl : s.params.legal = true) (hb : s.BatchInv) (lvl : Level) :
    (ticked lvl s).BatchInv := by
  rcases ticked_cases lvl s with ⟨_, h⟩ | ⟨_, _, h⟩ | ⟨_, _, _, h⟩ | ⟨_, _, _, h⟩ | ⟨_, _, h⟩ | ⟨_, _, _, h⟩ | ⟨_, _, _, h⟩
  case inr.inr.inr.inr.inr.inr =>
    rw [h]
    exact calibrate_batchInv (s := closeOutput (advance s)) hl hb _
  all_goals rw [h]; exact hb

/-- The batch invariant is kept by every instruction: only a `TICK` that closes a window and the two resets write the
registers it speaks of. -/
theorem effect_batchInv {s : State} (hl : s.params.legal = true) (hb : s.BatchInv) (i : Instr) : (effect i s).BatchInv := by
  cases i
  case tick lvl => exact ticked_batchInv hl hb lvl
  case edge lvl => rcases edgeDetected_cases lvl s with ⟨_, _, h⟩ | ⟨_, h⟩ <;> rw [effect, h] <;> exact hb
  case resetCal | hwreset => exact batchInv_of_empty hl rfl rfl (fun h => absurd h Bool.false_ne_true)
  all_goals exact hb

/-- Settles O44: a step is the effect of an instruction, up to the inputs. -/
theorem stepsKeepTheBatchInvariant : Obligations.StepsKeepTheBatchInvariant := by
  intro s t hl hb h
  obtain ⟨-, i, es, cs, rfl⟩ := step_next_effect h
  exact effect_batchInv hl hb i

/-! ### The duty invariant (R40, R45) -/

theorem not_mode0Of_and_mode100Of {p : Params} (hl : p.legal = true) (duty : Word) :
    ¬(mode0Of duty = true ∧ mode100Of p duty = true) := by
  rw [mode0Of_iff, mode100Of_iff]
  rintro ⟨rfl, hle⟩
  obtain ⟨-, -, -, -, -, -, hone, -⟩ := (legal_iff p).mp hl
  exact absurd (hone.trans hle) (by decide)

theorem clampDuty_le {p : Params} (hl : p.legal = true) (arg : Word) : (clampDuty p arg).toNat ≤ p.dutyResolution := by
  have h := clampDuty_toNat (dutyResolution_lt_of_legal hl) arg
  omega

theorem dutyDefault_toNat_le {p : Params} (hl : p.legal = true) :
    (BitVec.ofNat 16 p.dutyDefault).toNat ≤ p.dutyResolution := by
  obtain ⟨-, -, -, -, -, -, -, -, hdefault, -⟩ := (legal_iff p).mp hl
  exact (Nat.mod_le _ _).trans hdefault

theorem ticked_dutyInv {s : State} (hl : s.params.legal = true) (hd : s.DutyInv) (lvl : Level) :
    (ticked lvl s).DutyInv := by
  obtain ⟨hpercent, hlatched, -⟩ := id hd
  have hclosed : ¬(false = true ∧ false = true) := by decide
  rcases ticked_cases lvl s with ⟨_, h⟩ | ⟨_, _, h⟩ | ⟨_, _, _, h⟩ | ⟨_, _, _, h⟩ | ⟨_, _, h⟩ | ⟨_, _, _, h⟩ | ⟨_, _, _, h⟩ <;>
    rw [h]
  case inr.inr.inr.inl => exact ⟨hpercent, hpercent, not_mode0Of_and_mode100Of hl s.dutyPercent⟩
  case inr.inr.inr.inr.inr.inl => exact ⟨hpercent, hlatched, hclosed⟩
  case inr.inr.inr.inr.inr.inr =>
    rw [calibrate_frame]
    exact ⟨hpercent, hlatched, hclosed⟩
  all_goals exact hd

theorem effect_dutyInv {s : State} (hl : s.params.legal = true) (hd : s.DutyInv) (i : Instr) : (effect i s).DutyInv := by
  cases i
  case tick lvl => exact ticked_dutyInv hl hd lvl
  case edge lvl => rcases edgeDetected_cases lvl s with ⟨_, _, h⟩ | ⟨_, h⟩ <;> rw [effect, h] <;> exact hd
  case setDuty arg => exact ⟨clampDuty_le hl arg, hd.2⟩
  case hwreset => exact ⟨dutyDefault_toNat_le hl, Nat.zero_le _, fun h => Bool.false_ne_true h.1⟩
  all_goals exact hd

/-- Settles O45: a step is the effect of an instruction, up to the inputs. -/
theorem stepsKeepTheDutyInvariant : Obligations.StepsKeepTheDutyInvariant := by
  intro s t hl hd h
  obtain ⟨-, i, es, cs, rfl⟩ := step_next_effect h
  exact effect_dutyInv hl hd i

/-! ### The framing of the output (R151, R154 to R156, R159) -/

theorem framingInv_of_not_active {s : State} (h : s.state ≠ .lowActive) : s.FramingInv :=
  fun hactive => absurd hactive h

/-- A window that is not forced is confirmed with an on-time of at least one tick. -/
theorem confirmedTicks_pos {s : State} (hl : s.params.legal = true) (h0 : mode0Of s.dutyPercent = false)
    (h100 : mode100Of s.params s.dutyPercent = false) : 1 ≤ (confirmedTicks s).toNat := by
  have hduty : s.dutyPercent.toNat < s.params.dutyResolution := Nat.not_le.mp (of_decide_eq_false h100)
  rw [confirmedTicks_of_not_forced h0 h100, onTime_toNat hl hduty]
  exact le_max_right _ _

/-- In a confirmed window `SHAPE` leaves the level that the invariant asks for. -/
theorem shapedLevel_framed {s : State} {t : Word} :
    (s.mode0 = true → shapedLevel t s = .low) ∧
    (s.mode0 = false → s.mode100 = true → shapedLevel t s = .high) ∧
    (s.mode0 = false → s.mode100 = false → shapedLevel t s = .high →
      (elapsed t s.dutyStartTick).toNat < s.highTicks.toNat) := by
  refine ⟨fun h0 => by simp [shapedLevel, h0], fun h0 h100 => by simp [shapedLevel, h0, h100], fun h0 h100 hhigh => ?_⟩
  by_contra hreached
  have hr := (onTimeReached_iff s t).mpr (Nat.not_lt.mp hreached)
  simp [shapedLevel, h0, h100, hr] at hhigh

theorem ticked_framingInv {s : State} (hl : s.params.legal = true) (hd : s.DutyInv) (hf : s.FramingInv) (lvl : Level) :
    (ticked lvl s).FramingInv := by
  rcases ticked_cases lvl s with ⟨hs, h⟩ | ⟨_, _, h⟩ | ⟨hs, _, _, h⟩ | ⟨_, _, _, h⟩ | ⟨hs, _, h⟩ | ⟨_, _, _, h⟩ |
    ⟨_, _, _, h⟩ <;> rw [h]
  case inl | inr.inr.inl => exact framingInv_of_not_active (by simp [hs])
  case inr.inr.inr.inl =>
    have hforced := not_mode0Of_and_mode100Of hl s.dutyPercent
    refine fun _ => ⟨mode0Of_iff _, mode100Of_iff _ _, (confirmedLevel_eq_low_iff _).mpr, fun h100 => ?_,
      fun h0 h100 => ?_⟩
    · exact (confirmedLevel_eq_high_iff _).mpr (Bool.eq_false_iff.mpr fun h0 => hforced ⟨h0, h100⟩)
    · have hpos := confirmedTicks_pos hl h0 h100
      exact ⟨hpos, fun _ => by rw [elapsed_self]; exact hpos⟩
  case inr.inr.inr.inr.inl =>
    obtain ⟨hlow, hhigh, htime⟩ := shapedLevel_framed (s := s) (t := s.tick + 1#16)
    obtain ⟨hm0, hm100, -, -, hticks⟩ := hf hs
    obtain ⟨-, -, hforced⟩ := hd
    refine fun _ => ⟨hm0, hm100, hlow, fun h100 => ?_, fun h0 h100 => ⟨(hticks h0 h100).1, htime h0 h100⟩⟩
    exact hhigh (Bool.eq_false_iff.mpr fun h0 => hforced ⟨h0, h100⟩) h100
  all_goals exact framingInv_of_not_active (by simp)

theorem effect_framingInv {s : State} (hl : s.params.legal = true) (hd : s.DutyInv) (hf : s.FramingInv) (i : Instr) :
    (effect i s).FramingInv := by
  cases i
  case tick lvl => exact ticked_framingInv hl hd hf lvl
  case edge lvl =>
    rcases edgeDetected_cases lvl s with ⟨_, _, h⟩ | ⟨_, h⟩ <;> rw [effect, h]
    · exact framingInv_of_not_active (by simp)
    · exact hf
  case resetCal | hwreset => exact framingInv_of_not_active (fun h => by cases h)
  all_goals exact hf

/-- Settles O46: a step is the effect of an instruction, up to the inputs. -/
theorem stepsKeepTheOutputFraming : Obligations.StepsKeepTheOutputFraming := by
  intro s t hl hd hf h
  obtain ⟨-, i, es, cs, rfl⟩ := step_next_effect h
  exact effect_framingInv hl hd hf i

/-! ### The phase lock (R130, R232) -/

/-- In `IDLE_HIGH` no window is open, and the phase lock asks for nothing. -/
theorem phaseInv_of_idle {s : State} (h : s.state = .idleHigh) : s.PhaseInv :=
  ⟨fun hs => absurd (h.symm.trans hs) (by decide), fun hs => absurd (h.symm.trans hs) (by decide)⟩

theorem phaseInv_of_pending {s : State} (h : s.state = .lowPending)
    (hbound : elapsed s.tick s.pendingStartTick = 0#16 ∨
      (elapsed s.tick s.pendingStartTick).toNat < s.params.confirmTicks) : s.PhaseInv :=
  ⟨fun _ => hbound, fun hs => absurd (h.symm.trans hs) (by decide)⟩

theorem phaseInv_of_active {s : State} (h : s.state = .lowActive)
    (hlock : (elapsed s.dutyStartTick s.lowStartTick).toNat = max s.params.confirmTicks 1) : s.PhaseInv :=
  ⟨fun hs => absurd (h.symm.trans hs) (by decide), fun _ => hlock⟩

theorem elapsed_succ (a b : Word) : elapsed (a + 1#16) b = elapsed a b + 1#16 := by
  exact BitVec.sub_add_comm.symm

/-- A tick after the edge that the invariant bounds, the pending window is at most the threshold old, or one tick. -/
theorem pending_elapsed_succ {s : State} (hl : s.params.legal = true) (hp : s.PhaseInv) (hs : s.state = .lowPending) :
    1 ≤ (elapsed (s.tick + 1#16) s.pendingStartTick).toNat ∧
      (elapsed (s.tick + 1#16) s.pendingStartTick).toNat ≤ max s.params.confirmTicks 1 := by
  obtain ⟨hconfirm, -⟩ := (legal_iff s.params).mp hl
  rw [elapsed_succ]
  rcases hp.1 hs with h0 | hlt
  · rw [h0]
    exact ⟨le_rfl, le_max_right _ _⟩
  · rw [BitVec.toNat_add_of_lt (by change _ + 1 < 65536; omega)]
    exact ⟨Nat.le_add_left _ _, le_max_of_le_left hlt⟩

theorem ticked_phaseInv {s : State} (hl : s.params.legal = true) (hp : s.PhaseInv) (lvl : Level) :
    (ticked lvl s).PhaseInv := by
  rcases ticked_cases lvl s with ⟨hs, h⟩ | ⟨_, _, h⟩ | ⟨hs, _, hc, h⟩ | ⟨hs, _, hc, h⟩ | ⟨hs, _, h⟩ | ⟨_, _, _, h⟩ |
    ⟨_, _, _, h⟩ <;> rw [h]
  case inl => exact phaseInv_of_idle hs
  case inr.inr.inl => exact phaseInv_of_pending hs (.inr hc)
  case inr.inr.inr.inl =>
    obtain ⟨hone, hle⟩ := pending_elapsed_succ hl hp hs
    exact phaseInv_of_active rfl (le_antisymm hle (max_le hc hone))
  case inr.inr.inr.inr.inl => exact phaseInv_of_active hs (hp.2 hs)
  all_goals exact phaseInv_of_idle rfl

theorem effect_phaseInv {s : State} (hl : s.params.legal = true) (hp : s.PhaseInv) (i : Instr) :
    (effect i s).PhaseInv := by
  cases i
  case tick lvl => exact ticked_phaseInv hl hp lvl
  case edge lvl =>
    rcases edgeDetected_cases lvl s with ⟨_, _, h⟩ | ⟨_, h⟩ <;> rw [effect, h]
    · exact phaseInv_of_pending rfl (.inl (elapsed_self s.tick))
    · exact hp
  case resetCal | hwreset => exact phaseInv_of_idle rfl
  all_goals exact hp

/-- Settles O47: a step is the effect of an instruction, up to the inputs. -/
theorem stepsKeepThePhaseLock : Obligations.StepsKeepThePhaseLock := by
  intro s t hl hp h
  obtain ⟨-, i, es, cs, rfl⟩ := step_next_effect h
  exact effect_phaseInv hl hp i

/-! ### Every reachable state (spec/10_state.md section 7) -/

/-- Settles O43: after reset the batch is empty, no window is open and the duty is the default. -/
theorem resetMeetsTheInvariants : Obligations.ResetMeetsTheInvariants := by
  intro p hl
  exact ⟨hl, batchInv_of_empty hl rfl rfl (fun h => absurd h Bool.false_ne_true),
    ⟨dutyDefault_toNat_le hl, Nat.zero_le _, fun h => Bool.false_ne_true h.1⟩,
    framingInv_of_not_active (fun h => by cases h), phaseInv_of_idle rfl⟩

/-- A step keeps all the invariants together. -/
theorem step_inv {s t : State} (hi : s.Inv) (h : step s = .next t) : t.Inv := by
  obtain ⟨hl, hb, hd, hf, hp⟩ := hi
  exact ⟨by rw [(stepsKeepTheParameters s t h).1, hl], stepsKeepTheBatchInvariant s t hl hb h,
    stepsKeepTheDutyInvariant s t hl hd h, stepsKeepTheOutputFraming s t hl hd hf h, stepsKeepThePhaseLock s t hl hp h⟩

/-- Settles O48, by induction on the run. -/
theorem reachableStatesMeetTheInvariants : Obligations.ReachableStatesMeetTheInvariants := by
  intro p s hl hr
  induction hr with
  | reset events cycles => exact resetMeetsTheInvariants p hl
  | step s t _ hstep ih => exact step_inv ih hstep

/-! ### The output outside a confirmed window (R157, R159) -/

theorem ticked_outLevel_low {s : State} (hlow : s.state ≠ .lowActive → s.outLevel = .low) (lvl : Level)
    (ht : (ticked lvl s).state ≠ .lowActive) : (ticked lvl s).outLevel = .low := by
  rcases ticked_cases lvl s with ⟨hs, h⟩ | ⟨hs, _, h⟩ | ⟨hs, _, _, h⟩ | ⟨_, _, _, h⟩ | ⟨hs, _, h⟩ | ⟨_, _, _, h⟩ |
    ⟨_, _, _, h⟩ <;> rw [h] at ht ⊢
  case inr.inr.inr.inl => exact absurd rfl ht
  case inr.inr.inr.inr.inl => exact absurd hs ht
  case inr.inr.inr.inr.inr.inl => rfl
  case inr.inr.inr.inr.inr.inr => rw [calibrate_frame]; rfl
  all_goals exact hlow (by simp [hs])

/-- Settles O49, by the instruction: a `TICK` that leaves the window closes the output, `HWRESET` clears it, and no other but
`RESET_CAL` leaves a confirmed window. -/
theorem outputStaysLowOutsideWindows : Obligations.OutputStaysLowOutsideWindows := by
  intro i s t hi hlow h ht
  obtain ⟨-, rfl⟩ := (exec_next_iff i s t).mp h
  cases i
  case resetCal => exact absurd rfl hi
  case tick lvl => exact ticked_outLevel_low hlow lvl ht
  case edge lvl =>
    rcases edgeDetected_cases lvl s with ⟨hs, _, he⟩ | ⟨_, he⟩ <;> rw [effect, he] at ht ⊢
    · exact hlow (by simp [hs])
    · exact hlow ht
  case hwreset => rfl
  all_goals exact hlow ht

end Sys2Proof.Machine

/-! Sequences of events: what a whole window does (spec/41_pulse_window_fsm.md, spec/43_duty_output.md section 4,
spec/70_reset_and_hazards.md section 3) and what a whole batch of samples does (spec/42_calibration.md). -/

namespace Sys2Proof.Machine

/-- What every instruction of a sequence keeps, the sequence keeps. -/
theorem run_keeps {R : State → Prop} {is : List Instr} (hkept : ∀ i ∈ is, ∀ u, R u → R (effect i u)) {s t : State}
    (hs : R s) (h : run is s = .next t) : R t := by
  induction is generalizing s with
  | nil => cases h; exact hs
  | cons i rest ih =>
    obtain ⟨-, hr⟩ := (run_cons_next_iff i rest s t).mp h
    exact ih (fun j hj => hkept j (List.mem_cons_of_mem i hj)) (hkept i List.mem_cons_self s hs) hr

/-! ### IDLE_HIGH (R122, R231, R234) -/

/-- In `IDLE_HIGH` every instruction but a low edge and `HWRESET` keeps the state and the output. -/
theorem effect_keepsIdle {i : Instr} (hedge : i ≠ .edge .low) (hreset : i ≠ .hwreset) {s : State}
    (hs : s.state = .idleHigh) : (effect i s).state = .idleHigh ∧ (effect i s).outLevel = s.outLevel := by
  cases i
  case tick lvl => rw [effect, ticked_idle lvl s hs]; exact ⟨hs, rfl⟩
  case edge lvl =>
    cases lvl
    · exact absurd rfl hedge
    · rw [effect, edgeDetected_ignored .high s (.inr rfl)]
      exact ⟨hs, rfl⟩
  case resetCal => exact ⟨rfl, rfl⟩
  case hwreset => exact absurd rfl hreset
  all_goals exact ⟨hs, rfl⟩

/-- Settles O50: such a sequence keeps `IDLE_HIGH` and the level, and `RESET_CAL` enters the one and keeps the other. -/
theorem onlyALowEdgeLeavesIdle : Obligations.OnlyALowEdgeLeavesIdle := by
  intro is s t hedge hreset
  have hidle (u : State) (hu : u.state = .idleHigh) (hlevel : u.outLevel = s.outLevel) (h : run is u = .next t) :
      t.state = .idleHigh ∧ t.outLevel = s.outLevel := by
    refine run_keeps (R := fun x => x.state = .idleHigh ∧ x.outLevel = s.outLevel) (fun i hi x hx => ?_) ⟨hu, hlevel⟩ h
    obtain ⟨hstate, hout⟩ := effect_keepsIdle (fun e => hedge (e ▸ hi)) (fun e => hreset (e ▸ hi)) hx.1
    exact ⟨hstate, hout.trans hx.2⟩
  exact ⟨fun hs => hidle s hs rfl, fun h => hidle (effect .resetCal s) rfl rfl ((run_cons_next_iff _ is s t).mp h).2⟩

/-! ### The latched registers of a confirmed window (R158) -/

/-- The window of `s` is active in `t` too, with the duty, the modes and the on-time that `s` has latched. -/
def KeepsWindow (s t : State) : Prop :=
  t.state = .lowActive ∧ t.dutyLatched = s.dutyLatched ∧ t.mode0 = s.mode0 ∧ t.mode100 = s.mode100 ∧
    t.highTicks = s.highTicks

theorem effect_keepsWindow {i : Instr} (htick : i ≠ .tick .high) (hcal : i ≠ .resetCal) (hreset : i ≠ .hwreset)
    {s u : State} (h : KeepsWindow s u) : KeepsWindow s (effect i u) := by
  cases i
  case tick lvl =>
    cases lvl
    · rw [effect, ticked_shapes u h.1]
      exact h
    · exact absurd rfl htick
  case edge lvl =>
    rw [effect, edgeDetected_ignored lvl u (.inl (by simp [h.1]))]
    exact h
  case resetCal => exact absurd rfl hcal
  case hwreset => exact absurd rfl hreset
  all_goals exact h

/-- Settles O51: every instruction allowed keeps the window with what it has latched. -/
theorem latchedDutyHoldsForTheWindow : Obligations.LatchedDutyHoldsForTheWindow := by
  intro is s t htick hcal hreset hs h
  have hkept : ∀ i ∈ is, ∀ u, KeepsWindow s u → KeepsWindow s (effect i u) := fun i hi u hu =>
    effect_keepsWindow (fun e => htick (e ▸ hi)) (fun e => hcal (e ▸ hi)) (fun e => hreset (e ▸ hi)) hu
  exact run_keeps hkept ⟨hs, rfl, rfl, rfl, rfl⟩ h

/-! ### Low ticks in a confirmed window (R126, R155, R233) -/

/-- The output level that `n` low ticks in a confirmed window leave. -/
def levelAfter (s : State) : Nat → Level
  | 0 => s.outLevel
  | n + 1 => shapedLevel (s.tick + BitVec.ofNat 16 (n + 1)) { s with outLevel := levelAfter s n }

theorem add_ofNat_succ (x : Word) (n : Nat) : x + BitVec.ofNat 16 n + 1#16 = x + BitVec.ofNat 16 (n + 1) := by
  rw [BitVec.add_assoc, BitVec.ofNat_add]

/-- Low ticks in a confirmed window move the counter and shape the output; the sample apart, nothing else changes. -/
theorem run_ticks_active {s : State} (hl : s.params.legal = true) (hs : s.state = .lowActive) (n : Nat) :
    ∃ l, run (ticks n .low) s =
      .next { s with tick := s.tick + BitVec.ofNat 16 n, outLevel := levelAfter s n, prevInputState := l } := by
  induction n with
  | zero => exact ⟨s.prevInputState, by simp [ticks, run, levelAfter]⟩
  | succ n ih =>
    obtain ⟨l, h⟩ := ih
    refine ⟨.low, ?_⟩
    rw [ticks_succ, run_snoc _ _ _ _ h (by exact hl), effect, ticked_shapes _ (by exact hs), add_ofNat_succ]
    rfl

/-- In a window that is not forced the output is high exactly for the first `high_ticks` ticks: once low it stays low, also
when the counter has wrapped. -/
theorem levelAfter_eq_high_iff {s : State} (h0 : s.mode0 = false) (h100 : s.mode100 = false)
    (hstart : s.dutyStartTick = s.tick) (hout : s.outLevel = .high) (hticks : 1 ≤ s.highTicks.toNat) (n : Nat) :
    levelAfter s n = .high ↔ n < s.highTicks.toNat := by
  have hhigh : s.highTicks.toNat < 65536 := s.highTicks.isLt
  induction n with
  | zero => exact iff_of_true hout hticks
  | succ n ih =>
    have hreached : onTimeReached s (s.tick + BitVec.ofNat 16 (n + 1)) = true ↔
        s.highTicks.toNat ≤ (n + 1) % 65536 := by
      rw [onTimeReached_iff, hstart, elapsed_add_self, BitVec.toNat_ofNat]
    have hshaped : levelAfter s (n + 1) =
        if onTimeReached s (s.tick + BitVec.ofNat 16 (n + 1)) then .low else levelAfter s n := by
      simp [levelAfter, shapedLevel, h0, h100, onTimeReached]
    rw [hshaped]
    split
    case isTrue h =>
      have := hreached.mp h
      exact iff_of_false (by decide) (by omega)
    case isFalse h =>
      have := mt hreached.mpr h
      exact ih.trans (by omega)

/-- Settles O52, by the level that `n` low ticks leave. -/
theorem onTimeLastsHighTicks : Obligations.OnTimeLastsHighTicks := by
  intro n s hl hs h0 h100 hstart hout hticks
  obtain ⟨l, h⟩ := run_ticks_active hl hs n
  exact ⟨_, h, hs, rfl, levelAfter_eq_high_iff h0 h100 hstart hout hticks n⟩

/-! ### From the edge to the confirmation (R123, R124, R130) -/

/-- Low ticks short of the threshold, in a window opened in this tick, move the counter; the sample apart, nothing else
changes. -/
theorem run_ticks_pending {s : State} (hl : s.params.legal = true) (hs : s.state = .lowPending)
    (hstart : s.pendingStartTick = s.tick) {k : Nat} (hk : k < max s.params.confirmTicks 1) :
    ∃ l, run (ticks k .low) s = .next { s with tick := s.tick + BitVec.ofNat 16 k, prevInputState := l } := by
  induction k with
  | zero => exact ⟨s.prevInputState, by simp [ticks, run]⟩
  | succ k ih =>
    obtain ⟨l, h⟩ := ih (by omega)
    have hwaits : (elapsed (s.tick + BitVec.ofNat 16 k + 1#16) s.pendingStartTick).toNat < s.params.confirmTicks := by
      rw [add_ofNat_succ, hstart, elapsed_add_self, BitVec.toNat_ofNat]
      exact Nat.lt_of_le_of_lt (Nat.mod_le _ _) (by omega)
    refine ⟨.low, ?_⟩
    rw [ticks_succ, run_snoc _ _ _ _ h (by exact hl), effect,
      ticked_waits { s with tick := s.tick + BitVec.ofNat 16 k, prevInputState := l } hs hwaits, add_ofNat_succ]

/-- A low edge in `IDLE_HIGH`, then low ticks short of the threshold: the window is pending. -/
theorem run_edge_ticks_waits {s : State} (hl : s.params.legal = true) (hs : s.state = .idleHigh) {k : Nat}
    (hk : k < max s.params.confirmTicks 1) :
    ∃ l, run (.edge .low :: ticks k .low) s =
      .next { s with
        tick := s.tick + BitVec.ofNat 16 k, state := .lowPending, pendingStartTick := s.tick, prevInputState := l } := by
  rw [run_cons_of_legal _ _ hl, effect, edgeDetected_opens s hs]
  exact run_ticks_pending (s := { s with pendingStartTick := s.tick, state := .lowPending }) hl rfl rfl hk

/-- The tick at the threshold confirms it, with the window's start at the edge and the on-time's at this tick. -/
theorem run_edge_ticks_confirms {s : State} (hl : s.params.legal = true) (hs : s.state = .idleHigh) :
    ∃ t, run (.edge .low :: ticks (max s.params.confirmTicks 1) .low) s = .next t ∧ t.state = .lowActive ∧
      t.tick = s.tick + BitVec.ofNat 16 (max s.params.confirmTicks 1) ∧ t.lowStartTick = s.tick ∧
      t.dutyStartTick = t.tick ∧ t.lastLowTicks = s.lastLowTicks := by
  obtain ⟨hconfirm, -⟩ := (legal_iff s.params).mp hl
  obtain ⟨m, hm⟩ : ∃ m, max s.params.confirmTicks 1 = m + 1 := ⟨max s.params.confirmTicks 1 - 1, by omega⟩
  obtain ⟨l, h⟩ := run_edge_ticks_waits hl hs (k := m) (by omega)
  have hreached : s.params.confirmTicks ≤ (elapsed (s.tick + BitVec.ofNat 16 m + 1#16) s.tick).toNat := by
    rw [add_ofNat_succ, elapsed_add_self, BitVec.toNat_ofNat, Nat.mod_eq_of_lt (by omega)]
    omega
  rw [hm, ticks_succ, ← List.cons_append, run_snoc _ _ _ _ h (by exact hl), effect, ticked_confirms _ rfl hreached]
  exact ⟨_, rfl, rfl, add_ofNat_succ s.tick m, rfl, rfl, rfl⟩

/-- Settles O53, by whether the threshold is reached. -/
theorem edgeFixesThePhaseOfTheOutput : Obligations.EdgeFixesThePhaseOfTheOutput := by
  intro s k hl hs hk
  rcases Nat.lt_or_eq_of_le hk with hlt | rfl
  · obtain ⟨l, h⟩ := run_edge_ticks_waits hl hs hlt
    exact ⟨_, h, rfl, fun _ => ⟨rfl, rfl⟩, fun heq => absurd heq hlt.ne⟩
  · obtain ⟨t, h, hstate, htick, hlow, hduty, -⟩ := run_edge_ticks_confirms hl hs
    exact ⟨t, h, htick, fun hlt => absurd hlt (lt_irrefl _), fun _ => ⟨hstate, hlow, hduty⟩⟩

/-! ### A whole window (R96, R127, R232) -/

theorem calibrate_lastLowTicks (w : Word) (s : State) : (calibrate w s).lastLowTicks = w := by
  cases h : inBand s.params w
  · rw [calibrate_of_not_inBand w s h]
  · by_cases hn : (s.sampleCnt + 1#8).toNat = s.params.batchN
    · rw [calibrate_consumes w s h hn]
    · rw [calibrate_feeds w s h hn]

/-- The close leaves `IDLE_HIGH` with the output low, and records the width if it is at or above the noise floor. -/
theorem ticked_closes_idle {s : State} (hs : s.state = .lowActive) :
    (ticked .high s).state = .idleHigh ∧ (ticked .high s).outLevel = .low ∧
      (ticked .high s).lastLowTicks =
        if s.params.minLowTicks ≤ (elapsed (s.tick + 1#16) s.lowStartTick).toNat then
          elapsed (s.tick + 1#16) s.lowStartTick
        else s.lastLowTicks := by
  simp only [ticked_closes s hs, aboveFloor_iff]
  split
  · refine ⟨rfl, ?_, calibrate_lastLowTicks _ _⟩
    rw [calibrate_frame]
    rfl
  · exact ⟨rfl, rfl, rfl⟩

theorem ticks_add (m n : Nat) (l : Level) : ticks (m + n) l = ticks m l ++ ticks n l :=
  List.replicate_add m n _

/-- After the edge and the ticks up to the threshold the window is active, and further low ticks only count. -/
theorem run_edge_ticks_active {s : State} (hl : s.params.legal = true) (hs : s.state = .idleHigh) {k : Nat}
    (hk : max s.params.confirmTicks 1 ≤ k) :
    ∃ t, run (.edge .low :: ticks k .low) s = .next t ∧ t.state = .lowActive ∧ t.tick = s.tick + BitVec.ofNat 16 k ∧
      t.lowStartTick = s.tick ∧ t.lastLowTicks = s.lastLowTicks := by
  obtain ⟨n, rfl⟩ := Nat.exists_eq_add_of_le hk
  obtain ⟨t, ht, hstate, htick, hlow, -, hlast⟩ := run_edge_ticks_confirms hl hs
  obtain ⟨l, hu⟩ := run_ticks_active (s := t) (by rw [run_params _ _ _ ht, hl]) hstate n
  rw [← run_append _ _ _ _ ht, List.cons_append, ← ticks_add] at hu
  refine ⟨_, hu, hstate, ?_, hlow, hlast⟩
  rw [BitVec.ofNat_add, ← BitVec.add_assoc, ← htick]

/-- Settles O54: after the edge and the low ticks the window is active, and the high sample closes it, `w` ticks after the
edge. -/
theorem windowMeasuresItsWidth : Obligations.WindowMeasuresItsWidth := by
  intro s w hl hs hw hconfirm
  obtain ⟨t, ht, hstate, htick, hlow, hlast⟩ := run_edge_ticks_active hl hs (max_le hconfirm (by omega))
  have hparams := run_params _ _ _ ht
  have hcounted : t.tick + 1#16 = s.tick + BitVec.ofNat 16 w := by
    rw [htick, add_ofNat_succ, Nat.sub_add_cancel (by omega)]
  have hrun : run (window w) s = .next (ticked .high t) := by
    rw [window, ← List.cons_append, run_snoc _ _ _ _ ht (by rw [hparams, hl])]
    rfl
  obtain ⟨hidle, hout, hrecorded⟩ := ticked_closes_idle hstate
  rw [hcounted, hlow, elapsed_add_self, BitVec.toNat_ofNat, hparams, hlast] at hrecorded
  exact ⟨_, hrun, hidle, hout, (ticked_tick .high t).trans hcounted, fun h => hrecorded.trans (if_pos h),
    fun h => hrecorded.trans (if_neg (Nat.not_le.mpr h))⟩

/-! ### A batch of samples (R143, R144) -/

/-- The batch registers hold the samples `v :: vs`. -/
structure State.HoldsList (s : State) (v : Word) (vs : List Word) : Prop where
  holds : s.HoldsSamples (vs.length + 1)
  sum : s.sumLow.toNat = ((v :: vs).map BitVec.toNat).sum
  min : s.minLow.toNat = (vs.map BitVec.toNat).foldl min v.toNat
  max : s.maxLow.toNat = (vs.map BitVec.toNat).foldl max v.toNat

/-- The fallback estimate is no register of the batch. -/
theorem State.HoldsList.withLastLowTicks {s : State} {v : Word} {vs : List Word} (h : s.HoldsList v vs) (w : Word) :
    ({ s with lastLowTicks := w } : State).HoldsList v vs :=
  ⟨h.holds, h.sum, h.min, h.max⟩

/-- The first sample of a batch. -/
theorem holdsList_singleton {s : State} (h : s.HoldsSamples 0) (v : Word) : (feedBatch v s).HoldsList v [] where
  holds := h.feedBatch (by decide) v
  sum := by
    rw [feedBatch_sumLow, h.sumLow_add_toNat, h.2]
    simp
  min := by simp [batchMin_toNat, h.1]
  max := by simp [batchMax_toNat, h.1]

/-- One more sample. -/
theorem State.HoldsList.feedBatch {s : State} {v : Word} {vs : List Word} (h : s.HoldsList v vs)
    (hroom : vs.length + 1 < 255) (x : Word) : (feedBatch x s).HoldsList v (vs ++ [x]) := by
  have h0 : s.sampleCnt ≠ 0#8 := fun h0 => by simpa [h0] using h.holds.count
  exact
    { holds := by simpa using h.holds.feedBatch hroom x
      sum := by simp [h.holds.sumLow_add_toNat, h.sum, Nat.add_assoc]
      min := by simp [batchMin_toNat, h0, h.min]
      max := by simp [batchMax_toNat, h0, h.max] }

/-- A sample in the band that leaves the batch short of `BATCH_N` only feeds it. -/
theorem calibrate_eq_feedBatch {s : State} {n : Nat} (h : s.HoldsSamples n) {w : Word} (hband : inBand s.params w = true)
    (hshort : n + 1 < s.params.batchN) (hsize : s.params.batchN ≤ 255) :
    calibrate w s = { feedBatch w s with lastLowTicks := w } := by
  have hcount : (s.sampleCnt + 1#8).toNat = n + 1 := (h.feedBatch (by omega) w).count
  exact calibrate_feeds w s hband (by omega)

/-- A list of samples in the band, short of `BATCH_N`, fed to an empty batch: the batch holds the list. -/
theorem foldl_calibrate_holdsList {s : State} (hl : s.params.legal = true) (hempty : s.HoldsSamples 0) (v : Word)
    (vs : List Word) (hband : ∀ x ∈ v :: vs, inBand s.params x = true) (hshort : vs.length + 1 < s.params.batchN) :
    ∃ t, (v :: vs).foldl (fun st x => calibrate x st) s = t ∧ t.HoldsList v vs ∧ t.params = s.params ∧
      t.calibDone = s.calibDone ∧ t.fixedLowTicks = s.fixedLowTicks := by
  obtain ⟨-, -, -, -, -, hsize, -⟩ := (legal_iff s.params).mp hl
  refine ⟨_, rfl, ?_⟩
  induction vs using List.reverseRecOn with
  | nil =>
    rw [List.foldl_cons, List.foldl_nil, calibrate_eq_feedBatch hempty (hband v List.mem_cons_self) hshort hsize]
    exact ⟨(holdsList_singleton hempty v).withLastLowTicks v, rfl, rfl, rfl⟩
  | append_singleton xs x ih =>
    rw [List.length_append, List.length_singleton] at hshort
    have hx : inBand s.params x = true := hband x (by simp)
    obtain ⟨hlist, hparams, hdone, hfixed⟩ := ih (fun y hy => hband y (List.mem_append_left [x] hy)) (by omega)
    rw [← List.cons_append, List.foldl_append, List.foldl_cons, List.foldl_nil]
    generalize (v :: xs).foldl (fun st x => calibrate x st) s = u at *
    rw [← hparams] at hx hshort hsize
    rw [calibrate_eq_feedBatch hlist.holds hx (by omega) hsize]
    exact ⟨(hlist.feedBatch (by omega) x).withLastLowTicks x, hparams, hdone, hfixed⟩

/-- The sample that completes the batch makes the trimmed mean of the list the reference and empties the batch. -/
theorem calibrate_completes {s : State} (hl : s.params.legal = true) {v : Word} {vs : List Word} (h : s.HoldsList v vs)
    {x : Word} (hband : inBand s.params x = true) (hfull : vs.length + 2 = s.params.batchN) :
    ∃ f : Word,
      f.toNat = (((v :: (vs ++ [x])).map BitVec.toNat).sum - ((vs ++ [x]).map BitVec.toNat).foldl min v.toNat -
        ((vs ++ [x]).map BitVec.toNat).foldl max v.toNat) / (s.params.batchN - 2) ∧
      calibrate x s =
        { s with
          lastLowTicks := x, fixedLowTicks := f, calibDone := true, sumLow := 0#32, sampleCnt := 0#8,
          minLow := infSentinel, maxLow := 0#16 } := by
  obtain ⟨-, -, -, -, hthree, hsize, -⟩ := (legal_iff s.params).mp hl
  have hfed := h.feedBatch (by omega) x
  have hholds : (feedBatch x s).HoldsSamples (vs.length + 2) := by simpa using hfed.holds
  have hmean := hholds.trimmedMean_toNat (by omega) hfull.symm
  rw [hfed.sum, hfed.min, hfed.max] at hmean
  refine ⟨trimmedMean (feedBatch x s), ?_, calibrate_consumes x s hband (hholds.count.trans hfull)⟩
  rw [hmean, ← hfull, Nat.add_sub_cancel]

/-- Settles O55: all but the last sample of a full batch are held, and the last one completes it; a shorter list is held
whole. -/
theorem trimmedMeanOfTheBatch : Obligations.TrimmedMeanOfTheBatch := by
  rintro s v vs hl hcount hsum hband t rfl
  have hempty : s.HoldsSamples 0 := ⟨hcount, hsum⟩
  have hband' : ∀ x ∈ v :: vs, inBand s.params x = true := fun x hx => (inBand_iff _ _).mpr (hband x hx)
  refine ⟨fun hfull => ?_, fun hshort => ?_⟩
  · obtain ⟨-, -, -, -, hthree, -⟩ := (legal_iff s.params).mp hl
    rcases List.eq_nil_or_concat' vs with rfl | ⟨xs, x, rfl⟩
    · exact absurd (hfull ▸ hthree) (by simp)
    · rw [List.length_cons, List.length_append, List.length_singleton] at hfull
      obtain ⟨u, hu, hlist, hparams, -⟩ := foldl_calibrate_holdsList hl hempty v xs
        (fun y hy => hband' y (List.mem_append_left [x] hy)) (by omega)
      rw [← hparams] at hl hfull hband'
      obtain ⟨f, hmean, hcompleted⟩ := calibrate_completes hl hlist (hband' x (by simp)) hfull
      rw [← List.cons_append, List.foldl_append, hu, List.foldl_cons, List.foldl_nil, hcompleted, ← hparams]
      exact ⟨rfl, rfl, rfl, rfl, rfl, List.getLastD_concat.symm, hmean⟩
  · obtain ⟨t, ht, hlist, -, hdone, hfixed⟩ := foldl_calibrate_holdsList hl hempty v vs hband' hshort
    rw [ht]
    exact ⟨hdone, hfixed, hlist.holds.count, hlist.sum⟩

end Sys2Proof.Machine
